-- ==== Sys2Proof/Word.lean ====
section
/-! DEFINITION. The words of the part: bytes, 16-bit words, and their split into bytes, most significant byte first (00_scope.md). -/

namespace Sys2Proof

/-- One byte. -/
abbrev Byte := BitVec 8

/-- A 16-bit field of a frame, of the COMMAND or RESULT area, or an address of buffer memory. -/
abbrev Word := BitVec 16

/-- The most significant byte of a 16-bit field. -/
def hi (w : Word) : Byte := w.extractLsb' 8 8

/-- The least significant byte of a 16-bit field. -/
def lo (w : Word) : Byte := w.extractLsb' 0 8

/-- The 16-bit field whose bytes are `h`, then `l` (most significant first). -/
def word (h l : Byte) : Word := h ++ l

/-- The four bytes of a 32-bit field, most significant first. -/
def bytes32 (w : BitVec 32) : List Byte :=
  [w.extractLsb' 24 8, w.extractLsb' 16 8, w.extractLsb' 8 8, w.extractLsb' 0 8]

/-- The 32-bit field whose bytes are `a b c d`, most significant first. -/
def dword (a b c d : Byte) : BitVec 32 := ((a ++ b : BitVec 16) ++ (c ++ d : BitVec 16) : BitVec 32)

/-- A count as one byte. -/
def byteOf (n : Nat) : Byte := BitVec.ofNat 8 n

/-- A count as the two bytes of a 16-bit field, most significant first. -/
def wordBytes (n : Nat) : List Byte := [hi (BitVec.ofNat 16 n), lo (BitVec.ofNat 16 n)]

end Sys2Proof
end

