-- ==== Sys2Proof/Config.lean ====
section
/-! DEFINITION. What the part fixes once, and the one free value of the model. -/

namespace Sys2Proof.Config

/-- PART_ID (10_host_port.md, register window). -/
def partId : Word := 0xE532#16

/-- REVISION (10_host_port.md, register window). -/
def revision : Byte := 0x01#8

/-- Default RETRY_LIMIT (R46). -/
def defaultRetryLimit : Nat := 3

/-- Default PRESENCE_INTERVAL, in units of 10 ms (R46). -/
def defaultPresenceInterval : Nat := 10

/-- Default IDLE_LIMIT, in units of 100 ms (R46). -/
def defaultIdleLimit : Nat := 20

/-- FREE VALUE (log 3): where several timers run out on one tick of the timebase, the place at which the
next one of them is taken among those already ordered. Nothing is known of it. -/
opaque freeOrder : Nat → Nat

end Sys2Proof.Config
end

