-- ==== Sys2Proof/Syntax.lean ====
section
/-! DEFINITION. The commands of the block: one constructor of `Instr` for each row of spec/opcode_table.json,
with the types of their operands (frames, answers, received activity, the record of START and ARM). -/

namespace Sys2Proof

/-- A station number, 0–31 (R25, R43). -/
abbrev StationNo := Fin 32

/-- A channel number, which is the XCH of its exchange, 0–7 (R27). -/
abbrev ChannelNo := Fin 8

/-- A responder context slot, 0–3 (R140). -/
abbrev SlotNo := Fin 4

/-- The twelve frame kinds (R28). -/
inductive FrameKind where
  | join | presence | leave | request | data | close | abort
  | accept | refuse | ack | wait | report
deriving DecidableEq, Repr

/-- A frame on the line, from its header to its payload (R25, R28). -/
structure Frame where
  kind : FrameKind
  /-- DIR: set where the sender is the exchange's responder. -/
  dir : Bool
  /-- TGL: the toggle of DATA and ACK. -/
  tgl : Bool
  src : StationNo
  dst : StationNo
  xch : ChannelNo
  payload : List Byte
deriving DecidableEq, Repr

/-- What an answer frame says (R28, R32, R33): REFUSE carries its reason byte, ACK its TGL, REPORT its payload. -/
inductive Answer where
  | accept
  | refuse (reason : Byte)
  | ack (tgl : Bool)
  | wait
  | report (payload : List Byte)
deriving DecidableEq, Repr

/-- Activity as the receiver decoded it from its first transition to the idle line: its bits in the order
received, preamble and start delimiter included, and whether every bit carried its mid-bit transition at this
station's line rate (R1, R2, R23, R35). -/
structure Activity where
  bits : List Bool
  coded : Bool
deriving DecidableEq, Repr

/-- The eight payload bytes of a REQUEST (R30). Nothing is checked here: the responder checks the values. -/
structure RequestBody where
  op : Byte
  windowId : Byte
  sizeCode : Byte
  zero : Byte
  offset : Word
  total : Word
deriving DecidableEq, Repr

/-- The four payload bytes of a JOIN or PRESENCE (R29). -/
structure Announcement where
  interval : Byte
  openWindows : Byte
  freeContexts : Byte
  zero : Byte
deriving DecidableEq, Repr

/-- COMMAND bytes 3–15 of START and ARM (10_host_port.md 10.4). -/
structure DescriptorArg where
  peer : Byte
  /-- op in bits 7–4, window id in bits 3–0. -/
  opWindow : Byte
  /-- SHORT_OK in bit 7, frame size code in bits 2–0. -/
  sizeByte : Byte
  remoteOffset : Word
  localAddress : Word
  total : Word
  progress : Byte
  next : Byte
  deadline : Word
deriving DecidableEq, Repr

/-- How the Configuration Reader's one bus read ended (R45): with a fault, or with the bytes the device gave. -/
inductive ConfigRead where
  /-- No acknowledge of the bus address. -/
  | noDevice
  /-- No acknowledge of the memory address byte, or of the bus address at the repeated start. -/
  | noAcknowledge
  /-- The data line was held low so that no stop could be sent. -/
  | dataHeldLow
  /-- No fault: the bytes read, from memory address 0. -/
  | image (bytes : List Byte)
deriving DecidableEq, Repr

/-- The commands and events of the block. `tag` is COMMAND byte 1. -/
inductive Instr where
  /-- RESET_ASSERT (R43). -/
  | resetAssert
  /-- RESET_RELEASE (R43): the straps SN[4:0] and RATE[1:0] at the release. -/
  | resetRelease (sn : StationNo) (rate : Fin 4)
  /-- MEMORY_CLEAR_DONE (R170). -/
  | memoryClearDone
  /-- CONFIG_READ_DONE (R46). -/
  | configReadDone (r : ConfigRead)
  /-- CFG_CLOCK_TIMEOUT (R45). -/
  | cfgClockTimeout
  /-- JOIN (R50). -/
  | join (tag : Byte)
  /-- WITHDRAW (R53). -/
  | withdraw (tag : Byte)
  /-- RESTART (R58). -/
  | restart (tag : Byte)
  /-- STATION_INFO (R59). -/
  | stationInfo (tag : Byte)
  /-- PEER_INFO (R74). -/
  | peerInfo (tag station : Byte)
  /-- OPEN_WINDOW (R77). -/
  | openWindow (tag id sizeCode access : Byte) (base : Word) (mask : BitVec 32) (valid : Word)
  /-- CLOSE_WINDOW (R80). -/
  | closeWindow (tag id : Byte)
  /-- SET_VALID (R83). -/
  | setValid (tag id : Byte) (length : Word)
  /-- WINDOW_INFO (R90). -/
  | windowInfo (tag id : Byte)
  /-- START (R96). -/
  | start (tag ch : Byte) (d : DescriptorArg)
  /-- ARM (R98). -/
  | arm (tag ch : Byte) (d : DescriptorArg)
  /-- TRIGGER (R99). -/
  | trigger (tag ch : Byte)
  /-- HOLD (R124). -/
  | hold (tag ch : Byte)
  /-- RESUME (R128). -/
  | resume (tag ch : Byte)
  /-- CANCEL (R130). -/
  | cancel (tag ch : Byte)
  /-- SET_DEADLINE (R136). -/
  | setDeadline (tag ch : Byte) (ms : Word)
  /-- CLEAR_DEADLINE (R137). -/
  | clearDeadline (tag ch : Byte)
  /-- CHANNEL_INFO (R102). -/
  | channelInfo (tag ch part : Byte)
  /-- RELEASE (R101). -/
  | release (tag ch : Byte)
  /-- CONTEXT_INFO (R169). -/
  | contextInfo (tag slot part : Byte)
  /-- DROP_CONTEXT (R168). -/
  | dropContext (tag slot : Byte)
  /-- TAKE_ARRIVAL (R179). -/
  | takeArrival (tag : Byte)
  /-- BAD_COMMAND (R192): a command code not in the command table. -/
  | badCommand (tag code : Byte)
  /-- NOTICE_WRITE (R186): a byte written at 0x09 (`low`) or at 0x08. -/
  | noticeWrite (low : Bool) (value : Byte)
  /-- NOTICE_MASK_WRITE (R187): a byte written at 0x0B (`low`) or at 0x0A. -/
  | noticeMaskWrite (low : Bool) (value : Byte)
  /-- CHANNEL_ENDED_WRITE (R188). -/
  | channelEndedWrite (value : Byte)
  /-- CHANNEL_PROGRESS_WRITE (R188). -/
  | channelProgressWrite (value : Byte)
  /-- REGISTER_WRITE (R184): a byte written at a register address. -/
  | registerWrite (address : Word) (value : Byte)
  /-- BAD_INSTRUCTION (R182): the instruction byte of a transaction is not in the table. -/
  | badInstruction (code : Byte)
  /-- MEMORY_WRITE_BYTE (R183): a whole data byte of a memory write. `first` is the transaction's address when
  this is its first data byte, and none for a further byte (log 16). -/
  | memoryWriteByte (first : Option Word) (value : Byte)
  /-- MEMORY_READ_BYTE (R183): the next byte of a memory read is due. `first` as for MEMORY_WRITE_BYTE (log 16). -/
  | memoryReadByte (first : Option Word)
  /-- HOST_CLAIM_SERVED (R173). -/
  | hostClaimServed
  /-- CHANNEL_READ_CLAIM_SERVED (R108). -/
  | channelReadClaimServed
  /-- CONTEXT_READ_CLAIM_SERVED (R153). -/
  | contextReadClaimServed
  /-- ACTIVITY_START (R7). -/
  | activityStart
  /-- UNSEEN_ACTIVITY_END (R5). -/
  | unseenActivityEnd
  /-- CORRUPTED_FRAME (R36): activity ended that the Frame Checker classes; the well-formed command's activity
  is corrupted or malformed. -/
  | corruptedFrame (a : Activity)
  /-- JOIN_FRAME_RECEIVED (R64). -/
  | joinFrameReceived (src : StationNo) (p : Announcement)
  /-- PRESENCE_RECEIVED (R65). -/
  | presenceReceived (src : StationNo) (p : Announcement)
  /-- LEAVE_RECEIVED (R66). -/
  | leaveReceived (src : StationNo)
  /-- REQUEST_RECEIVED (R146). -/
  | requestReceived (src dst : StationNo) (xch : ChannelNo) (q : RequestBody)
  /-- DATA_RECEIVED (R150): a DATA with DIR 0. -/
  | dataReceived (src dst : StationNo) (xch : ChannelNo) (tgl : Bool) (payload : List Byte)
  /-- CHANNEL_DATA_RECEIVED (R111): a DATA with DIR 1 addressed to this station. -/
  | channelDataReceived (src : StationNo) (xch : ChannelNo) (tgl : Bool) (payload : List Byte)
  /-- CLOSE_RECEIVED (R157). -/
  | closeReceived (src dst : StationNo) (xch : ChannelNo)
  /-- ABORT_RECEIVED (R158). -/
  | abortReceived (src dst : StationNo) (xch : ChannelNo)
  /-- ANSWER_RECEIVED (R39). -/
  | answerReceived (src dst : StationNo) (xch : ChannelNo) (dir : Bool) (a : Answer)
  /-- REPLY_GAP_ANSWER (R9): the 8th bit-time of a reply gap. -/
  | replyGapAnswer
  /-- REPLY_GAP_CLOSE (R8): the 16th bit-time of a reply gap passed with no activity. -/
  | replyGapClose
  /-- SETTLE_GAP_END (R10). -/
  | settleGapEnd
  /-- SLOT_START (R11): the next slot of the round begins. -/
  | slotStart
  /-- SILENT_ROUND (R12). -/
  | silentRound
  /-- TRANSMISSION_END (R16). -/
  | transmissionEnd
  /-- COLLISION (R14). -/
  | collision
  /-- JAM_END (R14): `active` says whether activity of another station remains on the line. -/
  | jamEnd (active : Bool)
  /-- CLASH_COUNT_LIMIT (R19). -/
  | clashCountLimit
  /-- RETRY_EXHAUSTED (R103). -/
  | retryExhausted (ch : ChannelNo)
  /-- CONTEXT_RETRY_EXHAUSTED (R154). -/
  | contextRetryExhausted (slot : SlotNo)
  /-- LISTEN_TIMER_EXPIRY (R51). -/
  | listenTimerExpiry
  /-- PEER_EXPIRY (R67). -/
  | peerExpiry (peer : StationNo)
  /-- PRESENCE_TIMER_EXPIRY (R72). -/
  | presenceTimerExpiry
  /-- CHANNEL_PAUSE_EXPIRY (R106). -/
  | channelPauseExpiry (ch : ChannelNo)
  /-- DATA_WAIT_EXPIRY (R115). -/
  | dataWaitExpiry (ch : ChannelNo)
  /-- DEADLINE_EXPIRY (R138). -/
  | deadlineExpiry (ch : ChannelNo)
  /-- CONTEXT_PAUSE_EXPIRY (R155). -/
  | contextPauseExpiry (slot : SlotNo)
  /-- IDLE_TIMER_EXPIRY (R160). -/
  | idleTimerExpiry (slot : SlotNo)
  /-- LINGER_EXPIRY (R161). -/
  | lingerExpiry (slot : SlotNo)
  /-- GO_WRITE (R190). -/
  | goWrite (value : Byte)
  /-- CS_N_RISE (R183, R190). -/
  | csNRise
  /-- DIR_1_DATA_FOR_ANOTHER_STATION (R37). -/
  | dir1DataForAnotherStation (src dst : StationNo) (xch : ChannelNo) (tgl : Bool) (payload : List Byte)
deriving DecidableEq, Repr

end Sys2Proof
end

