-- ==== Sys2Proof/Decode.lean ====
section
/-! DEFINITION. Commands from words of the table's bits. The table gives no row any bits, so no word spells a
command (log 26). -/

namespace Sys2Proof

/-- The command a word spells by the table's bits: none, for every word (log 26). -/
def decodeTableWord (_nbits _w : Nat) : Option Instr := none

end Sys2Proof
end

