-- ==== Sys2Proof/Machine/Frames.lean ====
section
/-! DEFINITION. Frames as bits on the line: envelope, header, CRC, payloads, and the Frame Checker (02_frames.md). -/

namespace Sys2Proof

namespace FrameKind

/-- The KIND code (R28). -/
def code : FrameKind → Nat
  | join => 1 | presence => 2 | leave => 3 | request => 4 | data => 5 | close => 6 | abort => 7
  | accept => 8 | refuse => 9 | ack => 10 | wait => 11 | report => 12

/-- The kind a KIND code names; 0 and 13–15 name none (R28). -/
def ofCode : Nat → Option FrameKind
  | 1 => some join | 2 => some presence | 3 => some leave | 4 => some request | 5 => some data
  | 6 => some close | 7 => some abort | 8 => some accept | 9 => some refuse | 10 => some ack
  | 11 => some wait | 12 => some report | _ => none

/-- JOIN, PRESENCE and LEAVE: addressed to no one station and not answered (R3). -/
def broadcast : FrameKind → Bool
  | join | presence | leave => true
  | _ => false

/-- REQUEST, DATA, CLOSE and ABORT: a reply gap follows (R3). -/
def addressedAsk : FrameKind → Bool
  | request | data | close | abort => true
  | _ => false

/-- The answer class (R3). -/
def answer : FrameKind → Bool
  | accept | refuse | ack | wait | report => true
  | _ => false

/-- DIR is a zero bit in JOIN, PRESENCE, LEAVE, REQUEST, CLOSE and ABORT (R25). -/
def dirZero : FrameKind → Bool
  | join | presence | leave | request | close | abort => true
  | _ => false

/-- TGL is a zero bit in every kind but DATA and ACK (R25). -/
def tglZero : FrameKind → Bool
  | data | ack => false
  | _ => true

/-- Whether a kind admits a payload of `n` bytes: its fixed length, or 0–256 for DATA and REPORT (R28). -/
def admits (k : FrameKind) (n : Nat) : Bool :=
  match k with
  | join | presence => n == 4
  | request => n == 8
  | refuse => n == 1
  | data | report => n ≤ 256
  | leave | close | abort | accept | ack | wait => n == 0

end FrameKind

/-- The eight bits of a byte, most significant first (R23). -/
def bitsOfByte (b : Byte) : List Bool :=
  [b.getLsbD 7, b.getLsbD 6, b.getLsbD 5, b.getLsbD 4, b.getLsbD 3, b.getLsbD 2, b.getLsbD 1, b.getLsbD 0]

/-- The byte of eight bits, most significant first. -/
def byteOfBits (b7 b6 b5 b4 b3 b2 b1 b0 : Bool) : Byte :=
  byteOf (b7.toNat * 128 + b6.toNat * 64 + b5.toNat * 32 + b4.toNat * 16 + b3.toNat * 8 + b2.toNat * 4 +
    b1.toNat * 2 + b0.toNat)

/-- The bits of a run of bytes in the order sent. -/
def bitsOfBytes (bs : List Byte) : List Bool := bs.flatMap bitsOfByte

/-- The bytes of a run of bits; none where the bits are not a whole number of bytes (R35). -/
def bytesOfBits : List Bool → Option (List Byte)
  | [] => some []
  | b7 :: b6 :: b5 :: b4 :: b3 :: b2 :: b1 :: b0 :: rest =>
    (bytesOfBits rest).map (byteOfBits b7 b6 b5 b4 b3 b2 b1 b0 :: ·)
  | _ => none

/-- The generator polynomial without its x³² term (R24). -/
def crcPolynomial : BitVec 32 := 0x1EDC6F41#32

/-- One bit fed into the CRC register, not reflected (R24). -/
def crcStep (r : BitVec 32) (b : Bool) : BitVec 32 :=
  if r.msb != b then (r <<< 1) ^^^ crcPolynomial else r <<< 1

/-- The CRC over a header and payload: preset to all ones, complemented after the last bit (R24). -/
def crc (body : List Byte) : BitVec 32 :=
  ~~~ ((bitsOfBytes body).foldl crcStep 0xFFFFFFFF#32)

/-- The preamble: 16 bits alternating, beginning with 1 (R23). -/
def preamble : List Bool :=
  [true, false, true, false, true, false, true, false, true, false, true, false, true, false, true, false]

/-- The start delimiter (R23). -/
def delimiter : List Bool := [true, true, false, false, true, true, false, true]

namespace Frame

/-- The six header bytes (R25): LEN is the payload's length. -/
def header (f : Frame) : List Byte :=
  [byteOf (f.kind.code * 16 + f.dir.toNat * 8 + f.tgl.toNat * 4), byteOf f.src.val, byteOf f.dst.val,
    byteOf f.xch.val, hi (BitVec.ofNat 16 f.payload.length), lo (BitVec.ofNat 16 f.payload.length)]

/-- Header and payload, which the CRC covers (R24). -/
def body (f : Frame) : List Byte := f.header ++ f.payload

/-- The bytes after the start delimiter: header, payload and CRC (R2, R35). -/
def bytes (f : Frame) : List Byte := f.body ++ bytes32 (crc f.body)

/-- Every bit of the frame in the order sent (R23). -/
def lineBits (f : Frame) : List Bool := preamble ++ delimiter ++ bitsOfBytes f.bytes

/-- The activity a receiver sees of the whole frame. -/
def activity (f : Frame) : Activity := { bits := f.lineBits, coded := true }

/-- The header and length rules that make a frame with a good CRC valid (R25, R28, R35). -/
def valid (f : Frame) : Bool :=
  f.kind.admits f.payload.length && !(f.kind.dirZero && f.dir) && !(f.kind.tglZero && f.tgl) &&
    (!f.kind.broadcast || (f.dst.val == 0 && f.xch.val == 0))

end Frame

/-- What the Frame Checker finds of ended activity (R35). -/
inductive Finding where
  | corrupted
  | malformed
  | valid (f : Frame)
deriving DecidableEq, Repr

/-- The checks of the header and the length, on bytes whose CRC is good (R25, R28, R35). -/
def checkHeader (body : List Byte) : Finding :=
  match body with
  | b0 :: b1 :: b2 :: b3 :: l1 :: l0 :: payload =>
    match FrameKind.ofCode (b0.toNat / 16) with
    | none => .malformed
    | some k =>
      if hz : b0.toNat % 4 = 0 ∧ b1.toNat < 32 ∧ b2.toNat < 32 ∧ b3.toNat < 8 then
        let f : Frame := { kind := k, dir := b0.getLsbD 3, tgl := b0.getLsbD 2, src := ⟨b1.toNat, hz.2.1⟩,
                           dst := ⟨b2.toNat, hz.2.2.1⟩, xch := ⟨b3.toNat, hz.2.2.2⟩, payload := payload }
        if (word l1 l0).toNat = payload.length ∧ f.valid then .valid f else .malformed
      else .malformed
  | _ => .corrupted

/-- The Frame Checker with the LAU's own tests before it (R2, R23, R35). Corrupted wins over malformed. -/
def checkActivity (a : Activity) : Finding :=
  if !a.coded then .corrupted
  else if a.bits.length < 104 ∨ 2152 < a.bits.length then .corrupted
  else if (a.bits.drop 8).take 16 ≠ preamble.drop 8 ++ delimiter then .corrupted
  else
    match bytesOfBits (a.bits.drop 24) with
    | none => .corrupted
    | some bs =>
      let body := bs.take (bs.length - 4)
      if bs.drop (bs.length - 4) = bytes32 (crc body) then checkHeader body else .corrupted

/-- The bytes of the received-frame buffer at the end of activity: up to 266 whole bytes after the start delimiter, none
where no start delimiter stands in its place after the preamble, as in a jam (R2, R35). The preamble is not tested here: a
buffer that fills behind a delimiter whose preamble bits 9 to 16 are wrong is the model's choice (log 32). -/
def bufferedBytes (a : Activity) : List Byte :=
  if (a.bits.drop 16).take 8 = delimiter then
    let bits := a.bits.drop 24
    ((bytesOfBits (bits.take (bits.length / 8 * 8))).getD []).take 266
  else []

/-- The payload of a JOIN or PRESENCE (R29). -/
def Announcement.payload (p : Announcement) : List Byte := [p.interval, p.openWindows, p.freeContexts, p.zero]

/-- The payload of a REQUEST (R30). -/
def RequestBody.payload (q : RequestBody) : List Byte :=
  [q.op, q.windowId, q.sizeCode, q.zero, hi q.offset, lo q.offset, hi q.total, lo q.total]

namespace Answer

/-- The frame kind of an answer (R28). -/
def kind : Answer → FrameKind
  | accept => .accept
  | refuse _ => .refuse
  | ack _ => .ack
  | wait => .wait
  | report _ => .report

/-- The payload of an answer (R32, R33). -/
def payload : Answer → List Byte
  | refuse r => [r]
  | report p => p
  | _ => []

/-- TGL of an answer: that of the DATA answered in an ACK, else 0 (R26). -/
def tgl : Answer → Bool
  | ack t => t
  | _ => false

/-- The frame of an answer with its addressing (R26). -/
def frame (a : Answer) (dir : Bool) (src dst : StationNo) (xch : ChannelNo) : Frame :=
  { kind := a.kind, dir := dir, tgl := a.tgl, src := src, dst := dst, xch := xch, payload := a.payload }

end Answer

/-- Refuse reason codes (R32). -/
def reasonBusy : Byte := 1#8
def reasonConflict : Byte := 2#8
def reasonNoWindow : Byte := 3#8
def reasonDenied : Byte := 4#8
def reasonReadOnly : Byte := 5#8
def reasonRange : Byte := 6#8
def reasonBadRequest : Byte := 7#8
def reasonWithdrawing : Byte := 8#8
def reasonNoExchange : Byte := 9#8

/-- The payload bytes of a frame size code: 16, 32, 64, 128 or 256 (R30). -/
def frameSize (code : Nat) : Nat := 16 * 2 ^ code

end Sys2Proof
end

