-- ==== Sys2Proof/Machine/Codes.lean ====
section
/-! DEFINITION. The code lists of the host port: SPI instruction bytes and command codes (10_host_port.md R182, R192). -/

namespace Sys2Proof

/-- The command codes of the command table (R192). -/
def commandCodes : List Nat :=
  [0x01, 0x02, 0x03, 0x04, 0x08, 0x10, 0x11, 0x12, 0x13, 0x20, 0x21, 0x22, 0x23, 0x24, 0x25, 0x26, 0x27, 0x28,
    0x29, 0x30, 0x31, 0x38]

/-- The kind of an SPI transaction (R182). `opening`: its instruction and address bytes are being received, those
received so far in order; `ignored`: its instruction byte is not in the table. -/
inductive Machine.SpiKind where
  | opening (received : List Byte)
  | registerWrite | registerRead | memoryWrite | memoryRead | ignored
deriving DecidableEq, Repr

/-- The transaction table: each instruction byte with its transaction (R182). -/
def spiTable : List (Nat × Machine.SpiKind) :=
  [(0x41, .registerWrite), (0x42, .registerRead), (0x51, .memoryWrite), (0x52, .memoryRead)]

/-- The transaction an instruction byte opens, if it is in the table (R182). -/
def spiKind (code : Nat) : Option Machine.SpiKind := spiTable.lookup code

/-- The SPI instruction bytes of the transaction table (R182). -/
def spiCodes : List Nat := spiTable.map Prod.fst

/-- The number of bytes the Configuration Reader reads without a fault: three, or the whole image where the
signature and the count are good (R45). -/
def imageLength (bytes : List Byte) : Nat :=
  match bytes with
  | 0x45#8 :: 0x53#8 :: n :: _ => if n.toNat ≤ 16 then 4 + 2 * n.toNat else 3
  | _ => 3

end Sys2Proof
end

