-- ==== Sys2Proof/Machine/State.lean ====
section
/-! DEFINITION. The state of the part: the state each block owns (00_scope.md, Blocks), the reasons a step can stop,
and the state right after a full reset. Timers are `none` when stopped and `some n` when running with n ms left. -/

namespace Sys2Proof.Machine

/-! ### Line Access Unit -/

/-- A place where an asking frame waits for the station's turn (R21). -/
inductive Source where
  | station
  | channel (c : ChannelNo)
  | context (k : SlotNo)
deriving DecidableEq, Repr

/-- The record of the asking frame in flight (R4, R16). -/
structure Ask where
  source : Source
  kind : FrameKind
  dst : StationNo
  xch : ChannelNo
deriving DecidableEq, Repr

/-- An own transmission: its frame, its source (none for an answer), whether an asking frame began in a recovery
round (R19), and whether the jam of its collision is being sent (R14). -/
structure Transmission where
  frame : Frame
  source : Option Source
  recoveryRound : Bool
  jam : Bool
deriving DecidableEq, Repr

/-- The line phase (R4). `contention k begun`: slot k of the round, 1–32, and whether its start has passed. -/
inductive Phase where
  | silent
  | quiet
  | contention (slot : Nat) (begun : Bool)
  | receiving
  | transmitting (t : Transmission)
  | replyGap
deriving DecidableEq, Repr

/-- The Line Access Unit (R4). -/
structure Lau where
  phase : Phase
  /-- L, none while UNKNOWN. -/
  last : Option StationNo
  recovery : Bool
  clash : Nat
  /-- The round-robin pointer: 0–7 channels, 8–11 contexts. -/
  pointer : Fin 12
  ask : Option Ask
  /-- The answer the owner handed over, until it begins or is discarded (R9). -/
  answer : Option Frame
deriving DecidableEq, Repr

/-- The reset pin and the activity of other stations on the line. -/
structure Pins where
  /-- RESET_N is low (R43). -/
  resetHeld : Bool
  /-- Activity this station did not start is on the line (R5). -/
  lineActive : Bool
deriving DecidableEq, Repr

/-! ### Station Controller -/

/-- The station state (R41). -/
inductive StationMode where
  | loading | offline | listening | joining | online | withdrawing | withdrawn | clash
deriving DecidableEq, Repr

/-- The configuration source (R46). -/
inductive ConfigSource where
  | noDevice | image | partially | badImage
deriving DecidableEq, Repr

/-- The four configuration values (R42, R46). -/
structure ConfigValues where
  retryLimit : Nat
  presenceInterval : Nat
  idleLimit : Nat
  autoJoin : Bool
deriving DecidableEq, Repr

/-- The Station Controller with the station source and the tasks of LOADING (R42, R43, R47). -/
structure Station where
  mode : StationMode
  number : StationNo
  rate : Fin 4
  conf : ConfigValues
  confSource : ConfigSource
  listenTimer : Option Nat
  withdrawPending : Bool
  joinReady : Bool
  leaveReady : Bool
  presenceDue : Bool
  /-- The 1 ms timebase, counted from the release of reset (R48). -/
  ticks : Nat
  /-- The memory clearing has finished. -/
  clearDone : Bool
  /-- What the configuration read gave, once it has ended. -/
  readDone : Option (ConfigValues × ConfigSource)
deriving DecidableEq, Repr

/-! ### Peer Table -/

/-- The state of a peer entry (R60). -/
inductive PeerState where
  | absent | present | self
deriving DecidableEq, Repr

/-- A peer entry (R60). In the SELF entry the join count is stored; its other fields are read from their owners (R61). -/
structure Peer where
  state : PeerState
  announced : Option Nat
  expiry : Option Nat
  openWindows : Nat
  freeContexts : Nat
  joinCount : Nat
deriving DecidableEq, Repr

/-- The Peer Table (R60, R71). -/
structure PeerTable where
  entries : Vector Peer 32
  presenceTimer : Option Nat
deriving DecidableEq, Repr

/-! ### Window Table -/

/-- The access kind of a window (R75). -/
inductive Access where
  | none | readOnly | readWrite
deriving DecidableEq, Repr

/-- A window entry (R75). -/
structure Window where
  isOpen : Bool
  base : Nat
  sizeCode : Nat
  access : Access
  mask : BitVec 32
  valid : Nat
deriving DecidableEq, Repr

/-! ### Channel Engine -/

/-- The operation of an exchange (R91, R141). -/
inductive Op where
  | none | put | get | list
deriving DecidableEq, Repr

/-- A channel's descriptor (R91). -/
structure Descriptor where
  peer : StationNo
  op : Op
  windowId : Nat
  remoteOffset : Nat
  localAddress : Nat
  total : Nat
  sizeCode : Nat
  shortOk : Bool
  progress : Nat
  next : Option ChannelNo
  deadline : Nat
deriving DecidableEq, Repr

/-- A channel's state (R92, R94). -/
inductive ChannelState where
  | idle | armed | request | data | close | held | aborting | done | failed
deriving DecidableEq, Repr

/-- The phase a HELD channel returns to (R92). -/
inductive HeldPhase where
  | request | data | close
deriving DecidableEq, Repr

/-- A channel's condition (R120). -/
inductive Condition where
  | none | noError | underrun | overrun | refused | remoteEnded | retryExhausted | unconfirmed | badReport
  | dataTimeout | peerAbsent | peerLost | peerLeft | peerRestarted | cancelled | deadline | withdrawn | clash
deriving DecidableEq, Repr

/-- Why an ABORTING channel aborts (R92). -/
inductive AbortReason where
  | none | cancelled | deadline | overrun
deriving DecidableEq, Repr

/-- A DATA payload kept for re-offers, with its TGL (R92, R141). -/
structure HeldFrame where
  payload : List Byte
  tgl : Bool
deriving DecidableEq, Repr

/-- A channel record (R91, R92). `built` says that the held frame is ready at the source (R94, R108). -/
structure Channel where
  desc : Descriptor
  state : ChannelState
  heldPhase : HeldPhase
  moved : Nat
  remaining : Nat
  toggle : Bool
  attempts : Nat
  askInFlight : Bool
  holdPending : Bool
  endPending : Option Condition
  abortReason : AbortReason
  timeoutMark : Bool
  heldFrame : HeldFrame
  built : Bool
  pauseTimer : Option Nat
  condition : Condition
  detail : Byte
  deadlineTimer : Option Nat
  dataWait : Option Nat
  progressCount : Nat
deriving DecidableEq, Repr

/-- A channel's read claim waiting at the engine (R171, R172). -/
structure ChannelClaim where
  ch : ChannelNo
  address : Nat
  length : Nat
deriving DecidableEq, Repr

/-- The Channel Engine. Claims stand in the order made. -/
structure ChannelEngine where
  recs : Vector Channel 8
  claims : List ChannelClaim
deriving DecidableEq, Repr

/-! ### Responder Engine -/

/-- A context's state (R140). -/
inductive ContextState where
  | free | receiving | sending | drained | lingering
deriving DecidableEq, Repr

/-- A context's result (R33). -/
inductive Result where
  | ok | aborted | windowClosed | hostDropped | idleTimeout | badData | closedEarly | retryExhausted
  | initiatorGone | peerGone | superseded | withdrawn | clash
deriving DecidableEq, Repr

/-- A stored REPORT (R141, R162). -/
structure Report where
  result : Result
  count : Nat
  valid : Nat
deriving DecidableEq, Repr

/-- A responder context (R141). `built` says that the held frame is ready at the source (R153). -/
structure Context where
  state : ContextState
  initiator : StationNo
  xch : ChannelNo
  op : Op
  windowId : Fin 8
  offset : Nat
  total : Nat
  sizeCode : Nat
  amount : Nat
  moved : Nat
  toggle : Bool
  heldFrame : HeldFrame
  built : Bool
  finalMark : Bool
  attempts : Nat
  askInFlight : Bool
  pauseTimer : Option Nat
  idleTimer : Option Nat
  result : Option Result
  stored : Option Report
  snapshot : List Byte
deriving DecidableEq, Repr

/-- A context's read claim waiting at the engine (R171, R172). -/
structure ContextClaim where
  slot : SlotNo
  address : Nat
  length : Nat
deriving DecidableEq, Repr

/-- The Responder Engine. `linger` is the linger order, oldest first (R143). -/
structure ResponderEngine where
  slots : Vector Context 4
  linger : List SlotNo
  claims : List ContextClaim
deriving DecidableEq, Repr

/-! ### Buffer memory, arrivals -/

/-- The claimants of buffer memory (R171). -/
inductive Claimant where
  | host | channels | responders
deriving DecidableEq, Repr

/-- Buffer memory and the arbiter's pointer (R170, R173). -/
structure BufferMemory where
  cells : List Host.Cell
  pointer : Claimant
deriving DecidableEq, Repr

/-- An arrival record (R163). `windowId` is none for LIST. -/
structure Arrival where
  windowId : Option (Fin 8)
  initiator : StationNo
  xch : ChannelNo
  op : Op
  offset : Nat
  count : Nat
  result : Result
deriving DecidableEq, Repr

/-- The Arrival Queue, oldest record first (R177). -/
structure ArrivalQueue where
  records : List Arrival
  overflow : Bool
deriving DecidableEq, Repr

/-! ### Host port -/

/-- The notices that hold state of their own (R186). -/
structure Notices where
  cmdDone : Bool
  arrival : Bool
  arrivalOverflow : Bool
  peerChange : Bool
  stateChange : Bool
  config : Bool
deriving DecidableEq, Repr

/-- The SPI transaction in progress and its current address, which its data bytes begin at (R182 to R184). -/
structure Spi where
  kind : SpiKind
  address : Nat
deriving DecidableEq, Repr

/-- A one-byte claim of the host port (R171). -/
inductive HostClaim where
  | read (address : Nat)
  | write (address : Nat) (value : Byte)
deriving DecidableEq, Repr

/-- A register latched by a multi-byte register read: its lowest offset and its bytes (R184). -/
structure Latch where
  base : Nat
  bytes : List Byte
deriving DecidableEq, Repr

/-- The host port (R184 to R196). -/
structure HostPort where
  notices : Notices
  mask : Byte
  ended : BitVec 8
  progress : BitVec 8
  command : Vector Byte 16
  result : Vector Byte 16
  busy : Bool
  due : Bool
  spi : Option Spi
  /-- The byte driven on SO, none while SO is undriven (R182). -/
  so : Option Byte
  latch : Option Latch
  claims : List HostClaim
deriving DecidableEq, Repr

/-! ### The whole state -/

/-- The state of the part, the queue of waiting commands, and the counter that picks free values. -/
structure State where
  pins : Pins
  lau : Lau
  rx : List Byte
  station : Station
  peers : PeerTable
  windows : Vector Window 8
  chans : ChannelEngine
  ctxs : ResponderEngine
  buffer : BufferMemory
  arrivals : ArrivalQueue
  port : HostPort
  freeCount : Nat
  pending : List Instr
deriving DecidableEq, Repr

/-- Why a step stops with a fault: never. The part has no trap and no stop, and every address of its spaces
exists, so no meaning raises one (INVENTORY.md, Faults). -/
inductive Fault where
deriving DecidableEq, Repr

/-- Why a step refuses a command. -/
inductive Refusal where
  /-- The command has no meaning in the model yet. Raised by an arm of `exec`; safe. -/
  | notModelled (mnemonic : String)
deriving DecidableEq, Repr

/-! ### Full-reset values -/

/-- The LAU after a full reset (R4). -/
def Lau.reset : Lau :=
  { phase := .silent, last := some 31, recovery := false, clash := 0, pointer := 11, ask := none, answer := none }

/-- The default configuration values (R46). -/
def ConfigValues.default : ConfigValues :=
  { retryLimit := Config.defaultRetryLimit, presenceInterval := Config.defaultPresenceInterval,
    idleLimit := Config.defaultIdleLimit, autoJoin := false }

/-- The Station Controller after a full reset with the straps given (R42, R43). -/
def Station.reset (sn : StationNo) (rate : Fin 4) : Station :=
  { mode := .loading, number := sn, rate := rate, conf := ConfigValues.default, confSource := .noDevice,
    listenTimer := none, withdrawPending := false, joinReady := false, leaveReady := false, presenceDue := false,
    ticks := 0, clearDone := false, readDone := none }

/-- A cleared entry of another station (R60). -/
def Peer.cleared : Peer :=
  { state := .absent, announced := none, expiry := none, openWindows := 0, freeContexts := 0, joinCount := 0 }

/-- The SELF entry with its join count (R61). -/
def Peer.ofSelf (joins : Nat) : Peer := { Peer.cleared with state := .self, joinCount := joins }

/-- The Peer Table cleared, the own number's entry SELF with the join count given (R60, R61). -/
def PeerTable.cleared (own : StationNo) (joins : Nat) : PeerTable :=
  { entries := Vector.ofFn fun i => if i = own then Peer.ofSelf joins else Peer.cleared, presenceTimer := none }

/-- A window entry after a full reset (R76). -/
def Window.reset : Window :=
  { isOpen := false, base := 0, sizeCode := 0, access := .none, mask := 0#32, valid := 0 }

/-- The empty descriptor (R93). -/
def Descriptor.empty : Descriptor :=
  { peer := 0, op := .none, windowId := 0, remoteOffset := 0, localAddress := 0, total := 0, sizeCode := 0,
    shortOk := false, progress := 0, next := none, deadline := 0 }

/-- The empty held frame. -/
def HeldFrame.empty : HeldFrame := { payload := [], tgl := false }

/-- A channel after a full reset or RESTART (R93; the held phase is a DESIGN CHOICE, log 25). -/
def Channel.reset : Channel :=
  { desc := Descriptor.empty, state := .idle, heldPhase := .request, moved := 0, remaining := 0, toggle := false,
    attempts := 0, askInFlight := false, holdPending := false, endPending := none, abortReason := .none,
    timeoutMark := false, heldFrame := HeldFrame.empty, built := false, pauseTimer := none, condition := .none,
    detail := 0, deadlineTimer := none, dataWait := none, progressCount := 0 }

/-- The Channel Engine after a full reset or RESTART (R93). -/
def ChannelEngine.reset : ChannelEngine := { recs := Vector.replicate 8 Channel.reset, claims := [] }

/-- A context slot after a full reset or RESTART (R142). -/
def Context.reset : Context :=
  { state := .free, initiator := 0, xch := 0, op := .none, windowId := 0, offset := 0, total := 0, sizeCode := 0,
    amount := 0, moved := 0, toggle := false, heldFrame := HeldFrame.empty, built := false, finalMark := false,
    attempts := 0, askInFlight := false, pauseTimer := none, idleTimer := none, result := none, stored := none,
    snapshot := [] }

/-- The Responder Engine after a full reset or RESTART (R142). -/
def ResponderEngine.reset : ResponderEngine := { slots := Vector.replicate 4 Context.reset, linger := [], claims := [] }

/-- The notices after a full reset (R196). -/
def Notices.clear : Notices :=
  { cmdDone := false, arrival := false, arrivalOverflow := false, peerChange := false, stateChange := false,
    config := false }

/-- The host port after a full reset (R196). -/
def HostPort.reset : HostPort :=
  { notices := Notices.clear, mask := 0, ended := 0, progress := 0, command := Vector.replicate 16 0,
    result := Vector.replicate 16 0, busy := true, due := false, spi := none, so := none, latch := none, claims := [] }

/-- The machine right after the release of a full reset, in LOADING with both tasks begun (R43). The straps read 0
and the line is idle (DESIGN CHOICE, log 5); memory lists nothing. -/
def State.reset : State :=
  { pins := { resetHeld := false, lineActive := false }, lau := Lau.reset, rx := [], station := Station.reset 0 0,
    peers := PeerTable.cleared 0 0, windows := Vector.replicate 8 Window.reset, chans := ChannelEngine.reset,
    ctxs := ResponderEngine.reset, buffer := { cells := [], pointer := .responders },
    arrivals := { records := [], overflow := false }, port := HostPort.reset, freeCount := 0, pending := [] }

end Sys2Proof.Machine
end

