-- ==== Sys2Proof/Machine/Ops.lean ====
section
/-! DEFINITION. Named operations over the state: one update per block, access to entries by number, buffer memory,
the derived times, the code tables, and the arrival queue. A block has no exception entry; its notices are in Flags. -/

namespace Sys2Proof.Machine

/-! ### Updates of one block each -/

def State.setPins (s : State) (x : Pins) : State := { s with pins := x }
def State.setLau (s : State) (x : Lau) : State := { s with lau := x }
def State.setRx (s : State) (x : List Byte) : State := { s with rx := x }
def State.setStation (s : State) (x : Station) : State := { s with station := x }
def State.setPeers (s : State) (x : PeerTable) : State := { s with peers := x }
def State.setWindows (s : State) (x : Vector Window 8) : State := { s with windows := x }
def State.setChans (s : State) (x : ChannelEngine) : State := { s with chans := x }
def State.setCtxs (s : State) (x : ResponderEngine) : State := { s with ctxs := x }
def State.setBuffer (s : State) (x : BufferMemory) : State := { s with buffer := x }
def State.setArrivals (s : State) (x : ArrivalQueue) : State := { s with arrivals := x }
def State.setPort (s : State) (x : HostPort) : State := { s with port := x }
def State.setFree (s : State) (x : Nat) : State := { s with freeCount := x }

/-! ### Entries by number -/

def State.peer (s : State) (p : StationNo) : Peer := s.peers.entries[p.val]
def State.setPeer (s : State) (p : StationNo) (x : Peer) : State :=
  s.setPeers { s.peers with entries := s.peers.entries.set p.val x }

def State.window (s : State) (w : Fin 8) : Window := s.windows[w.val]
def State.setWindow (s : State) (w : Fin 8) (x : Window) : State := s.setWindows (s.windows.set w.val x)

def State.channel (s : State) (c : ChannelNo) : Channel := s.chans.recs[c.val]
def State.setChannel (s : State) (c : ChannelNo) (x : Channel) : State :=
  s.setChans { s.chans with recs := s.chans.recs.set c.val x }

def State.context (s : State) (k : SlotNo) : Context := s.ctxs.slots[k.val]
def State.setContext (s : State) (k : SlotNo) (x : Context) : State :=
  s.setCtxs { s.ctxs with slots := s.ctxs.slots.set k.val x }

/-- The channels in ascending order. -/
def allChannels : List ChannelNo := [0, 1, 2, 3, 4, 5, 6, 7]

/-- The slots in ascending order. -/
def allSlots : List SlotNo := [0, 1, 2, 3]

/-- The window ids in ascending order. -/
def allWindows : List (Fin 8) := [0, 1, 2, 3, 4, 5, 6, 7]

/-- The station numbers in ascending order. -/
def allStations : List StationNo :=
  [0, 1, 2, 3, 4, 5, 6, 7, 8, 9, 10, 11, 12, 13, 14, 15, 16, 17, 18, 19, 20, 21, 22, 23, 24, 25, 26, 27, 28, 29, 30, 31]

/-! ### Buffer memory (R170): what an unlisted address reads as is 0, to which LOADING clears every byte -/

/-- The byte at an address. -/
def memGet : List Host.Cell → Nat → Byte
  | [], _ => 0#8
  | (a, v) :: m, x => if a = x then v else memGet m x

/-- One byte stored at an address; the canonical form is kept. -/
def memPut : List Host.Cell → Nat → Byte → List Host.Cell
  | [], x, v => if v = 0#8 then [] else [(x, v)]
  | (a, w) :: m, x, v =>
    if x < a then (if v = 0#8 then (a, w) :: m else (x, v) :: (a, w) :: m)
    else if x = a then (if v = 0#8 then m else (x, v) :: m)
    else (a, w) :: memPut m x v

/-- A run of bytes read from an address on. -/
def memRead (m : List Host.Cell) (x : Nat) : Nat → List Byte
  | 0 => []
  | n + 1 => memGet m (x % 65536) :: memRead m (x + 1) n

/-- A run of bytes stored from an address on. -/
def memWrite (m : List Host.Cell) (x : Nat) : List Byte → List Host.Cell
  | [] => m
  | b :: bs => memWrite (memPut m (x % 65536) b) (x + 1) bs

/-- The canonical form from an address on: rising, within 65,536 addresses, no entry that reads as an unlisted address. -/
def memWfFrom (lowest : Nat) : List Host.Cell → Bool
  | [] => true
  | (a, v) :: m => decide (lowest ≤ a) && decide (a < 65536) && (v != 0#8) && memWfFrom (a + 1) m

/-- The canonical form of buffer memory. -/
def Memory.wf (m : List Host.Cell) : Bool := memWfFrom 0 m

def State.setCells (s : State) (m : List Host.Cell) : State := s.setBuffer { s.buffer with cells := m }
def State.setArbiter (s : State) (c : Claimant) : State := s.setBuffer { s.buffer with pointer := c }

/-! ### Derived times (R49), in ms -/

/-- The presence interval, which is also the pause interval. -/
def State.presenceLength (s : State) : Nat := 10 * s.station.conf.presenceInterval
/-- The listen time. -/
def State.listenLength (s : State) : Nat := 30 * s.station.conf.presenceInterval
/-- The idle limit, which is also the linger limit and the data-wait limit. -/
def State.idleLength (s : State) : Nat := 100 * s.station.conf.idleLimit
/-- The expiry length of an entry whose announced interval is given; UNKNOWN counts as this station's own (R63). -/
def State.expiryLength (s : State) (announced : Option Nat) : Nat :=
  30 * announced.getD s.station.conf.presenceInterval
/-- The most attempts a source makes, 1 + RETRY_LIMIT (R18). -/
def State.attemptLimit (s : State) : Nat := 1 + s.station.conf.retryLimit

/-- The time left of a timer, 0 when it is stopped. -/
def timeLeft (t : Option Nat) : Nat := t.getD 0

/-! ### Code tables -/

/-- Station state codes (R41). -/
def StationMode.code : StationMode → Nat
  | loading => 0 | offline => 1 | listening => 2 | joining => 3 | online => 4 | withdrawing => 5 | withdrawn => 6
  | clash => 7

/-- Configuration source codes (R46). -/
def ConfigSource.code : ConfigSource → Nat
  | noDevice => 0 | image => 1 | partially => 2 | badImage => 3

/-- Peer state codes (R74). -/
def PeerState.code : PeerState → Nat
  | absent => 0 | present => 1 | self => 2

/-- Access codes (R75). -/
def Access.code : Access → Nat
  | none => 0 | readOnly => 1 | readWrite => 2

/-- Operation codes (R30, R91). -/
def Op.code : Op → Nat
  | none => 0 | put => 1 | get => 2 | list => 3

/-- The operation an op code names; NONE for the rest. -/
def Op.ofCode : Nat → Op
  | 1 => put | 2 => get | 3 => list | _ => none

/-- Channel state codes (R193). -/
def ChannelState.code : ChannelState → Nat
  | idle => 0 | armed => 1 | request => 2 | data => 3 | close => 4 | held => 5 | aborting => 6 | done => 7 | failed => 8

/-- The channel state a held phase stands for (R124). -/
def HeldPhase.toState : HeldPhase → ChannelState
  | request => .request | data => .data | close => .close

/-- Condition codes (R120). -/
def Condition.code : Condition → Nat
  | none => 0 | noError => 1 | underrun => 2 | overrun => 3 | refused => 4 | remoteEnded => 5 | retryExhausted => 6
  | unconfirmed => 7 | badReport => 8 | dataTimeout => 9 | peerAbsent => 10 | peerLost => 11 | peerLeft => 12
  | peerRestarted => 13 | cancelled => 14 | deadline => 15 | withdrawn => 16 | clash => 17

/-- The condition an abort reason ends with (R133). -/
def AbortReason.condition : AbortReason → Condition
  | none => .none | cancelled => .cancelled | deadline => .deadline | overrun => .overrun

/-- Context state codes (R169). -/
def ContextState.code : ContextState → Nat
  | free => 0 | receiving => 1 | sending => 2 | drained => 3 | lingering => 4

/-- RECEIVING, SENDING and DRAINED (R140). -/
def ContextState.active : ContextState → Bool
  | receiving | sending | drained => true
  | free | lingering => false

/-- Result codes (R33). -/
def Result.code : Result → Nat
  | ok => 0 | aborted => 1 | windowClosed => 2 | hostDropped => 3 | idleTimeout => 4 | badData => 5 | closedEarly => 6
  | retryExhausted => 7 | initiatorGone => 8 | peerGone => 9 | superseded => 10 | withdrawn => 11 | clash => 12

/-- Results 0–7 leave their context lingering; results 8–12 free it (R162). -/
def Result.lingers (r : Result) : Bool := decide (r.code ≤ 7)

/-- The payload of a REPORT (R33). -/
def Report.payload (r : Report) : List Byte := [byteOf r.result.code, 0#8] ++ wordBytes r.count ++ wordBytes r.valid

/-! ### Windows -/

/-- The bytes a window holds (R75). -/
def Window.size (w : Window) : Nat := 256 * 2 ^ w.sizeCode

/-- Whether a station stands in the window's peer mask (R86). -/
def Window.admits (w : Window) (p : StationNo) : Bool := w.mask.getLsbD p.val

/-- The number of OPEN windows (R88). -/
def State.openCount (s : State) : Nat := (allWindows.filter fun w => (s.window w).isOpen).length

/-- The number of FREE slots (R140). -/
def State.freeSlots (s : State) : Nat := (allSlots.filter fun k => (s.context k).state == .free).length

/-! ### The Peer Table's answers -/

/-- Whether an entry is PRESENT. -/
def State.present (s : State) (p : StationNo) : Bool := (s.peer p).state == .present

/-! ### The Arrival Queue -/

/-- An arrival record appended by the queue's state at that moment (R178); the two notices follow R181. -/
def appendArrival (r : Arrival) (s : State) : State :=
  if s.arrivals.records.length < 16 then
    (s.setArrivals { s.arrivals with records := s.arrivals.records ++ [r] }).setPort
      { s.port with notices := { s.port.notices with arrival := true } }
  else
    (s.setArrivals { s.arrivals with overflow := true }).setPort
      { s.port with notices := { s.port.notices with arrivalOverflow := true } }

/-! ### The LAU's small updates -/

def State.setPhase (s : State) (p : Phase) : State := s.setLau { s.lau with phase := p }
def State.setAsk (s : State) (a : Option Ask) : State := s.setLau { s.lau with ask := a }
def State.setAnswer (s : State) (a : Option Frame) : State := s.setLau { s.lau with answer := a }
def State.setLineActive (s : State) (b : Bool) : State := s.setPins { s.pins with lineActive := b }

/-- L set, with the recovery flag (R13). -/
def State.setL (s : State) (l : StationNo) (recovery : Bool) : State :=
  s.setLau { s.lau with last := some l, recovery := recovery }

/-- Whether this station sends a frame or a jam now. -/
def Phase.sending : Phase → Bool
  | transmitting _ => true
  | _ => false

/-- Whether the receiver takes what ends on the line: it is on, and this station is not sending (R6). -/
def Phase.hears : Phase → Bool
  | silent => false
  | transmitting _ => false
  | _ => true

/-- The station states in which the receiver is on (R6). -/
def StationMode.onLine : StationMode → Bool
  | listening | joining | online | withdrawing => true
  | _ => false

end Sys2Proof.Machine
end

