-- ==== Sys2Proof/Machine/Flags.lean ====
section
/-! DEFINITION. The notices, the two per-channel sets and INT_N (R186 to R188, R194, R195). -/

namespace Sys2Proof.Machine

def State.setNotices (s : State) (n : Notices) : State := s.setPort { s.port with notices := n }

/-- PEER_CHANGE set (R69). -/
def raisePeerChange (s : State) : State := s.setNotices { s.port.notices with peerChange := true }

/-- STATE_CHANGE set (R42). -/
def raiseStateChange (s : State) : State := s.setNotices { s.port.notices with stateChange := true }

/-- One bit of a per-channel set, as a byte with that bit alone. -/
def channelBit (c : ChannelNo) : BitVec 8 := BitVec.twoPow 8 c.val

/-- Bit c of CHANNEL_ENDED set (R118, R188). -/
def markEnded (c : ChannelNo) (s : State) : State := s.setPort { s.port with ended := s.port.ended ||| channelBit c }

/-- Bit c of CHANNEL_PROGRESS set (R119, R188). -/
def markProgress (c : ChannelNo) (s : State) : State :=
  s.setPort { s.port with progress := s.port.progress ||| channelBit c }

/-- Bit c of both sets cleared, as START, ARM and RELEASE do (R188). -/
def clearMarks (c : ChannelNo) (s : State) : State :=
  s.setPort { s.port with ended := s.port.ended &&& ~~~ channelBit c, progress := s.port.progress &&& ~~~ channelBit c }

/-- The low byte of NOTICE (R186): CHANNEL_END and PROGRESS follow their sets. -/
def State.noticeByte (s : State) : Byte :=
  byteOf (s.port.notices.cmdDone.toNat + 2 * (s.port.ended != 0).toNat + 4 * (s.port.progress != 0).toNat +
    8 * s.port.notices.arrival.toNat + 16 * s.port.notices.arrivalOverflow.toNat +
    32 * s.port.notices.peerChange.toNat + 64 * s.port.notices.stateChange.toNat + 128 * s.port.notices.config.toNat)

/-- INT_N is driven low while a notice is set and enabled; it is released while RESET_N is low (R43, R187). -/
def State.intLow (s : State) : Bool := !s.pins.resetHeld && (s.noticeByte &&& s.port.mask) != 0#8

/-- NOTICE's W1C bits written with `v`: bits 0 and 3–7 written as 1 clear; bits 1–2 are ignored (R186). -/
def Notices.clearedBy (n : Notices) (v : Byte) : Notices :=
  { cmdDone := n.cmdDone && !v.getLsbD 0, arrival := n.arrival && !v.getLsbD 3,
    arrivalOverflow := n.arrivalOverflow && !v.getLsbD 4, peerChange := n.peerChange && !v.getLsbD 5,
    stateChange := n.stateChange && !v.getLsbD 6, config := n.config && !v.getLsbD 7 }

end Sys2Proof.Machine
end

