-- ==== Sys2Proof/Machine/Arbiter.lean ====
section
/-! DEFINITION. The Memory Arbiter: the order in which the three claimants are served, and each claim's burst
(09_buffer_memory_and_arrivals.md R171 to R175; R108, R153). -/

namespace Sys2Proof.Machine

/-- The circle of claimants after the one the pointer names, that one last (R173). -/
def claimantsAfter : Claimant → List Claimant
  | .host => [.channels, .responders, .host]
  | .channels => [.responders, .host, .channels]
  | .responders => [.host, .channels, .responders]

/-- Whether a claimant presents a claim (R172). -/
def presents (s : State) : Claimant → Bool
  | .host => !s.port.claims.isEmpty
  | .channels => !s.chans.claims.isEmpty
  | .responders => !s.ctxs.claims.isEmpty

/-- The claimant the free arbiter serves next (R173). -/
def nextClaimant (s : State) : Option Claimant := (claimantsAfter s.buffer.pointer).find? (presents s)

/-- The host port's oldest byte claim served: the byte read stands on SO, or the byte is stored (R183). -/
def serveHost (s : State) : State :=
  match s.port.claims with
  | [] => s
  | .read a :: rest =>
    (s.setPort { s.port with so := some (memGet s.buffer.cells (a % 65536)), claims := rest }).setArbiter .host
  | .write a v :: rest =>
    ((s.setPort { s.port with claims := rest }).setCells (memPut s.buffer.cells (a % 65536) v)).setArbiter .host

/-- The channel with its held frame built from the bytes read (R108). -/
def Channel.withFrame (ch : Channel) (bytes : List Byte) : Channel :=
  { ch with heldFrame := { payload := bytes, tgl := ch.toggle }, built := true }

/-- The Channel Engine's earliest read claim served: the payload is copied, the DATA becomes ready (R108). -/
def serveChannel (s : State) : State :=
  match s.chans.claims with
  | [] => s
  | cl :: rest =>
    ((s.setChans { s.chans with claims := rest }).setChannel cl.ch
      ((s.channel cl.ch).withFrame (memRead s.buffer.cells cl.address cl.length))).setArbiter .channels

/-- Whether a frame of this length is the last DATA of the exchange (R153). -/
def Context.isFinal (x : Context) (length : Nat) : Bool :=
  x.moved + length == x.amount && (decide (length < frameSize x.sizeCode) || x.amount == x.total)

/-- The context with its held frame built (R153). -/
def Context.withFrame (x : Context) (bytes : List Byte) : Context :=
  { x with heldFrame := { payload := bytes, tgl := x.toggle }, built := true, attempts := 0,
           finalMark := x.isFinal bytes.length }

/-- The Responder Engine's earliest read claim served (R153). -/
def serveContext (s : State) : State :=
  match s.ctxs.claims with
  | [] => s
  | cl :: rest =>
    ((s.setCtxs { s.ctxs with claims := rest }).setContext cl.slot
      ((s.context cl.slot).withFrame (memRead s.buffer.cells cl.address cl.length))).setArbiter .responders

/-- One claim of a claimant served. -/
def serve (who : Claimant) (s : State) : State :=
  match who with
  | .host => serveHost s
  | .channels => serveChannel s
  | .responders => serveContext s

/-- A claim served where its claimant comes next in the circle (R173); otherwise the arbiter serves another
first, and the event does not arise (log 1). -/
def serveInTurn (who : Claimant) (s : State) : State := if nextClaimant s = some who then serve who s else s

/-- One claim of each claimant that presents one, in the order given. -/
def serveEach : List Claimant → State → State
  | [], s => s
  | c :: rest, s => serveEach rest (if presents s c then serve c s else s)

/-- The claimants that stand before `who` in the circle. -/
def claimantsBefore (pointer who : Claimant) : List Claimant := (claimantsAfter pointer).takeWhile (· ≠ who)

/-- An engine's write of a received payload, in the frame's arrival: the claims that stand before it in the circle
are served first, at most one of each other claimant (R172, R173, R174; log 13). An empty payload makes no claim. -/
def writePayload (who : Claimant) (address : Nat) (bytes : List Byte) (s : State) : State :=
  if bytes.isEmpty then s
  else
    let s₁ := serveEach (claimantsBefore s.buffer.pointer who) s
    (s₁.setCells (memWrite s₁.buffer.cells address bytes)).setArbiter who

end Sys2Proof.Machine
end

