-- ==== Sys2Proof/Machine/Channels.lean ====
section
/-! DEFINITION. The Channel Engine: how a channel starts, ends, builds its frames, takes its asks' outcomes, and acts
on peer and station events (06_transfer_channels.md; 07_holding_cancelling_and_deadlines.md). -/

namespace Sys2Proof.Machine

/-! ### The record -/

/-- REQUEST, DATA and CLOSE: the phases in which an ask may be in flight and a hold may come (R94, R124). -/
def ChannelState.phase : ChannelState → Option HeldPhase
  | request => some .request
  | data => some .data
  | close => some .close
  | _ => none

/-- DONE and FAILED (R94). -/
def ChannelState.ended : ChannelState → Bool
  | done | failed => true
  | _ => false

/-- The record in the event that ends the channel (R118): what R118 does not name keeps its value. -/
def Channel.ended (ch : Channel) (cond : Condition) (detail : Byte) : Channel :=
  { ch with
    state := if cond = .noError then .done else .failed, condition := cond, detail := detail,
    deadlineTimer := none, dataWait := none, pauseTimer := none, askInFlight := false, holdPending := false,
    endPending := none, timeoutMark := false, built := false }

/-- The deadline timer a descriptor starts: none for a deadline of 0 (R97, R135). -/
def Descriptor.timer (d : Descriptor) : Option Nat := if d.deadline = 0 then none else some d.deadline

/-- The record as START, TRIGGER and a chain trigger leave it, from its descriptor (R97). -/
def Channel.started (ch : Channel) : Channel :=
  { ch with
    state := .request, moved := 0, remaining := ch.desc.total, toggle := false, attempts := 0, progressCount := 0,
    condition := .none, detail := 0, abortReason := .none, askInFlight := false, holdPending := false,
    endPending := none, timeoutMark := false, built := false, pauseTimer := none, dataWait := none,
    deadlineTimer := ch.desc.timer }

/-- The record on entry to ABORTING (R132). -/
def Channel.aborting (ch : Channel) (why : AbortReason) : Channel :=
  { ch with
    state := .aborting, abortReason := why, condition := .none, deadlineTimer := none, dataWait := none,
    timeoutMark := false, built := false, attempts := 0 }

/-- The record on entry to HELD (R124, R126). -/
def Channel.held (ch : Channel) (phase : HeldPhase) : Channel :=
  { ch with state := .held, heldPhase := phase, holdPending := false, dataWait := none }

/-- The payload bytes of the channel's next new DATA (R108). -/
def Channel.nextLength (ch : Channel) : Nat := min (frameSize ch.desc.sizeCode) ch.remaining

/-- The buffer address of the channel's next byte (R108, R112). -/
def Channel.nextAddress (ch : Channel) : Nat := ch.desc.localAddress + ch.moved

/-- The payload of the REQUEST a descriptor makes: window id and offset are 0 for LIST (R30, R97). -/
def Descriptor.requestBody (d : Descriptor) : RequestBody :=
  { op := byteOf d.op.code, windowId := if d.op = .list then 0 else byteOf d.windowId, sizeCode := byteOf d.sizeCode,
    zero := 0, offset := if d.op = .list then 0 else BitVec.ofNat 16 d.remoteOffset, total := BitVec.ofNat 16 d.total }

/-! ### Ends and starts -/

/-- A read claim of the channel not yet served is withdrawn (R172). -/
def withdrawChannelClaim (c : ChannelNo) (s : State) : State :=
  s.setChans { s.chans with claims := s.chans.claims.filter fun cl => cl.ch ≠ c }

/-- A channel ends with a condition (R118); the chain of a DONE channel is `endDone`'s. -/
def endChannel (c : ChannelNo) (cond : Condition) (detail : Byte) (s : State) : State :=
  withdrawChannelClaim c (markEnded c (s.setChannel c ((s.channel c).ended cond detail)))

/-- A channel starts from its own descriptor (R97). -/
def startChannel (c : ChannelNo) (s : State) : State := clearMarks c (s.setChannel c (s.channel c).started)

/-- The chain trigger of an ARMED next channel: TRIGGER's checks 2 and 4 (R100). -/
def chainTrigger (n : ChannelNo) (s : State) : State :=
  if (s.channel n).state = .armed ∧ s.station.mode = .online then
    if s.present (s.channel n).desc.peer then startChannel n s else endChannel n .peerAbsent 0 s
  else s

/-- A channel ends DONE, and its next channel is looked at in the same event (R100, R118). -/
def endDone (c : ChannelNo) (s : State) : State :=
  let s₁ := endChannel c .noError 0 s
  match (s.channel c).desc.next with
  | none => s₁
  | some n => chainTrigger n s₁

/-- A channel enters ABORTING (R132). -/
def enterAborting (c : ChannelNo) (why : AbortReason) (s : State) : State :=
  withdrawChannelClaim c (s.setChannel c ((s.channel c).aborting why))

/-- A channel enters HELD (R124, R126); a claim not yet served is withdrawn (R108). -/
def enterHeld (c : ChannelNo) (phase : HeldPhase) (s : State) : State :=
  withdrawChannelClaim c (s.setChannel c ((s.channel c).held phase))

/-- A channel enters CLOSE with CLOSE ready (R105, R109, R113, R115). -/
def enterClose (c : ChannelNo) (s : State) : State :=
  s.setChannel c { s.channel c with state := .close, attempts := 0, dataWait := none, built := false }

/-- A PUT channel claims buffer memory for its next DATA (R108). -/
def claimFrame (c : ChannelNo) (s : State) : State :=
  let ch := s.channel c
  let s₁ := s.setChannel c { ch with built := false, attempts := 0 }
  s₁.setChans { s₁.chans with
    claims := s₁.chans.claims ++ [{ ch := c, address := ch.nextAddress, length := ch.nextLength }] }

/-- The progress counter counts a DATA frame that moved data (R119). -/
def countProgress (c : ChannelNo) (s : State) : State :=
  let ch := s.channel c
  if ch.desc.progress = 0 then s
  else if ch.progressCount + 1 = ch.desc.progress then markProgress c (s.setChannel c { ch with progressCount := 0 })
  else s.setChannel c { ch with progressCount := ch.progressCount + 1 }

/-- `n` bytes of the exchange confirmed: moved, remaining, the toggle and the progress counter (R92, R109, R112). -/
def confirmBytes (c : ChannelNo) (n : Nat) (s : State) : State :=
  let ch := s.channel c
  countProgress c (s.setChannel c
    { ch with moved := ch.moved + n, remaining := ch.remaining - n, toggle := !ch.toggle })

/-! ### Outcomes of asks (R103 to R117, R133) -/

/-- The outcome the LAU hands a source (R16). -/
inductive AskOutcome where
  | taken (a : Answer)
  | noAnswer
  | collided
deriving DecidableEq, Repr

/-- The attempt count set (R103). -/
def setAttempts (c : ChannelNo) (n : Nat) (s : State) : State := s.setChannel c { s.channel c with attempts := n }

/-- The end at 1 + RETRY_LIMIT that the rule for the frame gives (R105, R109, R117, R133). -/
def endExhausted (c : ChannelNo) (s : State) : State :=
  let ch := s.channel c
  match ch.state with
  | .request => endChannel c .retryExhausted 0 s
  | .data => endChannel c .retryExhausted 0 s
  | .close => endChannel c (if ch.timeoutMark then .dataTimeout else .retryExhausted) 0 s
  | .aborting => endChannel c ch.abortReason.condition 0 s
  | _ => s

/-- NO_ANSWER, and an answer that counts as none: one attempt, and the end at the limit (R103). -/
def channelNoAnswer (c : ChannelNo) (s : State) : State :=
  let s₁ := setAttempts c ((s.channel c).attempts + 1) s
  if (s.channel c).attempts + 1 < s.attemptLimit then s₁ else endExhausted c s₁

/-- REFUSE(BUSY) and REFUSE(CONFLICT) to a REQUEST: one attempt and a pause, or the end (R106). -/
def requestDeferred (c : ChannelNo) (reason : Byte) (s : State) : State :=
  let s₁ := setAttempts c ((s.channel c).attempts + 1) s
  if (s.channel c).attempts + 1 < s.attemptLimit then
    s₁.setChannel c { s₁.channel c with pauseTimer := some s.presenceLength }
  else endChannel c .refused reason s₁

/-- ACCEPT to a REQUEST (R105). -/
def requestAccepted (c : ChannelNo) (s : State) : State :=
  let ch := s.channel c
  if ch.desc.total = 0 then enterClose c s
  else if ch.desc.op = .put then claimFrame c (s.setChannel c { ch with state := .data, attempts := 0 })
  else s.setChannel c { ch with state := .data, attempts := 0, toggle := false, dataWait := some s.idleLength }

/-- The answer to a REQUEST (R105). -/
def requestTaken (c : ChannelNo) (a : Answer) (s : State) : State :=
  match a with
  | .accept => requestAccepted c s
  | .refuse r =>
    if r = reasonBusy ∨ r = reasonConflict then requestDeferred c r s
    else endChannel c .refused r (setAttempts c 0 s)
  | .report _ => endChannel c .badReport 0 (setAttempts c 0 s)
  | .ack _ => channelNoAnswer c s
  | .wait => channelNoAnswer c s

/-- ACK of a PUT's DATA with the channel's toggle (R109, R125). -/
def putConfirmed (c : ChannelNo) (s : State) : State :=
  let s₁ := setAttempts c 0 (confirmBytes c (s.channel c).heldFrame.payload.length s)
  if (s₁.channel c).remaining = 0 then enterClose c s₁
  else if (s.channel c).holdPending then s₁.setChannel c { s₁.channel c with built := false }
  else claimFrame c s₁

/-- The result byte of a REPORT's payload. -/
def reportResult (p : List Byte) : Byte := p.getD 0 0#8

/-- The count of a REPORT's payload, bytes 2–3 (R33). -/
def reportCount (p : List Byte) : Nat := (word (p.getD 2 0#8) (p.getD 3 0#8)).toNat

/-- The answer to a DATA of a PUT (R109). -/
def putDataTaken (c : ChannelNo) (a : Answer) (s : State) : State :=
  match a with
  | .ack t => if t = (s.channel c).toggle then putConfirmed c s else channelNoAnswer c s
  | .report p =>
    if p.length = 6 ∧ reportResult p ≠ 0#8 then endChannel c .remoteEnded (reportResult p) (setAttempts c 0 s)
    else endChannel c .badReport 0 (setAttempts c 0 s)
  | .refuse r => endChannel c .refused r (setAttempts c 0 s)
  | .accept => channelNoAnswer c s
  | .wait => channelNoAnswer c s

/-- The checks of a REPORT to CLOSE, in their order (R116). -/
def closeReported (c : ChannelNo) (p : List Byte) (s : State) : State :=
  let ch := s.channel c
  if ch.timeoutMark then endChannel c .dataTimeout 0 s
  else if p.length ≠ 6 then endChannel c .badReport 0 s
  else if reportResult p ≠ 0#8 then endChannel c .remoteEnded (reportResult p) s
  else if reportCount p ≠ (if ch.desc.op = .put then ch.desc.total else ch.moved) then endChannel c .badReport 0 s
  else if ch.remaining ≠ 0 ∧ ch.desc.shortOk = false then endChannel c .underrun 0 s
  else endDone c s

/-- The answer to a CLOSE (R116, R117). -/
def closeTaken (c : ChannelNo) (a : Answer) (s : State) : State :=
  match a with
  | .report p => closeReported c p (setAttempts c 0 s)
  | .refuse r =>
    if (s.channel c).timeoutMark then endChannel c .dataTimeout 0 (setAttempts c 0 s)
    else if r = reasonNoExchange then endChannel c .unconfirmed 0 (setAttempts c 0 s)
    else endChannel c .refused r (setAttempts c 0 s)
  | .accept => channelNoAnswer c s
  | .ack _ => channelNoAnswer c s
  | .wait => channelNoAnswer c s

/-- The answer to an ABORT (R133). -/
def abortTaken (c : ChannelNo) (a : Answer) (s : State) : State :=
  match a with
  | .report _ => endChannel c (s.channel c).abortReason.condition 0 (setAttempts c 0 s)
  | .refuse _ => endChannel c (s.channel c).abortReason.condition 0 (setAttempts c 0 s)
  | .accept => channelNoAnswer c s
  | .ack _ => channelNoAnswer c s
  | .wait => channelNoAnswer c s

/-- TAKEN, by the frame the channel asked (R103). -/
def channelTaken (c : ChannelNo) (a : Answer) (s : State) : State :=
  match (s.channel c).state with
  | .request => requestTaken c a s
  | .data => if (s.channel c).desc.op = .put then putDataTaken c a s else s
  | .close => closeTaken c a s
  | .aborting => abortTaken c a s
  | _ => s

/-- What is pending, applied after the outcome: a pending end first, else a pending hold (R104, R125). An outcome that has
ended the channel stands, and its pending end is dropped, by R104 and not by the wording of R122: the model's reading
(log 33). -/
def applyPending (c : ChannelNo) (s : State) : State :=
  let ch := s.channel c
  if ch.state.ended then s
  else
    match ch.endPending with
    | some r => endChannel c r 0 s
    | none =>
      match ch.state.phase with
      | some p => if ch.holdPending then enterHeld c p s else s
      | none => s

/-- The outcome of the channel's ask (R103, R104, R125). -/
def channelOutcome (c : ChannelNo) (o : AskOutcome) (s : State) : State :=
  let s₁ := s.setChannel c { s.channel c with askInFlight := false }
  applyPending c
    (match o with
      | .taken a => channelTaken c a s₁
      | .noAnswer => channelNoAnswer c s₁
      | .collided => s₁)

/-! ### Ends by other events -/

/-- end-pending set with a reason; the first reason stays (R104). -/
def pendEnd (c : ChannelNo) (why : Condition) (s : State) : State :=
  s.setChannel c { s.channel c with endPending := some ((s.channel c).endPending.getD why) }

/-- CANCEL and a deadline expiry, with the reason given, by state, ask and held phase (R130, R138). -/
def giveUp (c : ChannelNo) (why : AbortReason) (s : State) : State :=
  let ch := s.channel c
  match ch.state with
  | .request => if ch.askInFlight then pendEnd c why.condition s else endChannel c why.condition 0 s
  | .data => if ch.askInFlight then pendEnd c why.condition s else enterAborting c why s
  | .close => if ch.askInFlight then pendEnd c why.condition s else enterAborting c why s
  | .held => if ch.heldPhase = .request then endChannel c why.condition 0 s else enterAborting c why s
  | _ => s

/-- A peer or station event that ends running channels with a condition; ABORTING ones end with their abort
reason; with an ask in flight the end is pending (R121, R122). -/
def interruptChannel (why : Condition) (s : State) (c : ChannelNo) : State :=
  let ch := s.channel c
  match ch.state with
  | .request => if ch.askInFlight then pendEnd c why s else endChannel c why 0 s
  | .data => if ch.askInFlight then pendEnd c why s else endChannel c why 0 s
  | .close => if ch.askInFlight then pendEnd c why s else endChannel c why 0 s
  | .held => endChannel c why 0 s
  | .aborting => if ch.askInFlight then pendEnd c ch.abortReason.condition s else endChannel c ch.abortReason.condition 0 s
  | _ => s

/-- A peer event: every channel whose descriptor names the peer (R121). -/
def channelsPeerEvent (p : StationNo) (why : Condition) (s : State) : State :=
  allChannels.foldl (fun s c => if (s.channel c).desc.peer = p then interruptChannel why s c else s) s

/-- Entry to WITHDRAWING: ARMED channels end at once, running ones as R122 gives. -/
def channelsWithdraw (s : State) : State :=
  allChannels.foldl
    (fun s c => if (s.channel c).state = .armed then endChannel c .withdrawn 0 s else interruptChannel .withdrawn s c) s

/-- Entry to CLASH: every ARMED, running or ABORTING channel ends FAILED(CLASH) at once (R123). -/
def channelsClash (s : State) : State :=
  allChannels.foldl
    (fun s c =>
      match (s.channel c).state with
      | .idle => s
      | .done => s
      | .failed => s
      | _ => endChannel c .clash 0 s) s

/-! ### DATA with DIR 1 (R111 to R115, R127) -/

/-- A new DATA of a GET or LIST in its DATA phase (R112, R113). -/
def takeNewData (c : ChannelNo) (tgl : Bool) (payload : List Byte) (s : State) : Answer × State :=
  let ch := s.channel c
  if frameSize ch.desc.sizeCode < payload.length ∨ ch.remaining < payload.length then
    (.ack tgl, enterAborting c .overrun s)
  else
    let s₁ := confirmBytes c payload.length (writePayload .channels ch.nextAddress payload s)
    if (s₁.channel c).remaining = 0 ∨ payload.length < frameSize ch.desc.sizeCode then (.ack tgl, enterClose c s₁)
    else (.ack tgl, s₁.setChannel c { s₁.channel c with dataWait := some s.idleLength })

/-- The answer to a DATA with DIR 1 taken in ONLINE by the channel its XCH names (R111, R114, R127). -/
def takeChannelData (src : StationNo) (c : ChannelNo) (tgl : Bool) (payload : List Byte) (s : State) : Answer × State :=
  let ch := s.channel c
  if src ≠ ch.desc.peer ∨ ch.desc.op = .put then (.refuse reasonNoExchange, s)
  else
    match ch.state with
    | .request => (.wait, s)
    | .data =>
      if tgl = ch.toggle then takeNewData c tgl payload s
      else (.ack tgl, s.setChannel c { ch with dataWait := some s.idleLength })
    | .close => if tgl = ch.toggle then (.refuse reasonNoExchange, s) else (.ack tgl, s)
    | .held =>
      match ch.heldPhase with
      | .request => (.wait, s)
      | .data => if tgl = ch.toggle then (.wait, s) else (.ack tgl, s)
      | .close => if tgl = ch.toggle then (.refuse reasonNoExchange, s) else (.ack tgl, s)
    | _ => (.refuse reasonNoExchange, s)

end Sys2Proof.Machine
end

