-- ==== Sys2Proof/Machine/Operands.lean ====
section
/-! DEFINITION. The mailbox: where a command's parameters stand in the COMMAND area, what a command returns, and how
its RESULT record is written (10_host_port.md 10.3, 10.4; R189 to R194). -/

namespace Sys2Proof.Machine

/-! ### Status and reply -/

/-- The statuses a command returns (R192). -/
inductive Status where
  | ok | badCommand | badArg | state | channelState | inUse | overlap | range | peerAbsent | empty | notOpen
deriving DecidableEq, Repr

/-- Status codes (R192). -/
def Status.code : Status → Nat
  | ok => 0 | badCommand => 1 | badArg => 2 | state => 3 | channelState => 4 | inUse => 5 | overlap => 6 | range => 7
  | peerAbsent => 8 | empty => 9 | notOpen => 10

/-- What a command returns: its status, its detail, and RESULT bytes 4 onward; bytes not given are 0 (R191). -/
structure Reply where
  status : Status
  detail : Nat
  body : List Byte
deriving DecidableEq, Repr

/-- OK with results. -/
def Reply.ok (body : List Byte) : Reply := { status := .ok, detail := 0, body := body }

/-- OK with detail PENDING (R192). -/
def Reply.pending : Reply := { status := .ok, detail := 1, body := [] }

/-- A refused command, with its detail. -/
def Reply.refused (st : Status) (detail : Nat) : Reply := { status := st, detail := detail, body := [] }

/-! ### Parameters in the COMMAND area -/

/-- COMMAND byte i. -/
def State.cmd (s : State) (i : Fin 16) : Byte := s.port.command[i.val]

/-- The two-byte field at COMMAND bytes i and j, most significant first. -/
def State.cmdWord (s : State) (i j : Fin 16) : Word := word (s.cmd i) (s.cmd j)

/-- Bytes of the COMMAND area written one by one. -/
def putBytes : List (Fin 16 × Byte) → Vector Byte 16 → Vector Byte 16
  | [], v => v
  | (i, b) :: rest, v => putBytes rest (v.set i.val b)

/-- COMMAND bytes written. -/
def putCommand (params : List (Fin 16 × Byte)) (s : State) : State :=
  s.setPort { s.port with command := putBytes params s.port.command }

/-- The two COMMAND bytes of a 16-bit parameter. -/
def wordAt (i j : Fin 16) (w : Word) : List (Fin 16 × Byte) := [(i, hi w), (j, lo w)]

/-- COMMAND bytes 3–15 of START and ARM. -/
def descriptorBytes (d : DescriptorArg) : List (Fin 16 × Byte) :=
  [(3, d.peer), (4, d.opWindow), (5, d.sizeByte)] ++ wordAt 6 7 d.remoteOffset ++ wordAt 8 9 d.localAddress ++
    wordAt 10 11 d.total ++ [(12, d.progress), (13, d.next)] ++ wordAt 14 15 d.deadline

/-- The descriptor parameters as the COMMAND area holds them. -/
def State.descriptorArg (s : State) : DescriptorArg :=
  { peer := s.cmd 3, opWindow := s.cmd 4, sizeByte := s.cmd 5, remoteOffset := s.cmdWord 6 7,
    localAddress := s.cmdWord 8 9, total := s.cmdWord 10 11, progress := s.cmd 12, next := s.cmd 13,
    deadline := s.cmdWord 14 15 }

/-- COMMAND bytes 2–13 of OPEN_WINDOW. -/
def openWindowBytes (id sizeCode access : Byte) (base : Word) (mask : BitVec 32) (valid : Word) :
    List (Fin 16 × Byte) :=
  [(2, id), (3, sizeCode), (4, access)] ++ wordAt 6 7 base ++
    [(8, mask.extractLsb' 24 8), (9, mask.extractLsb' 16 8), (10, mask.extractLsb' 8 8), (11, mask.extractLsb' 0 8)] ++
    wordAt 12 13 valid

/-- The peer mask parameter of OPEN_WINDOW: bit 0 in byte 11. -/
def State.cmdMask (s : State) : BitVec 32 := dword (s.cmd 8) (s.cmd 9) (s.cmd 10) (s.cmd 11)

/-! ### Taking a command -/

/-- The sixteen RESULT bytes of a reply: status, detail, tag, code, results, 0 in the rest (R191). -/
def resultArea (r : Reply) (tag code : Byte) : Vector Byte 16 :=
  Vector.ofFn fun i : Fin 16 =>
    ([byteOf r.status.code, byteOf r.detail, tag, code] ++ r.body).getD i.val 0#8

/-- The end of every command: RESULT is written, BUSY clears, CMD_DONE is set (R190, R191, R194). -/
def completeCommand (r : Reply) (s : State) : State :=
  s.setPort { s.port with
    result := resultArea r (s.cmd 1) (s.cmd 0), busy := false, due := false,
    notices := { s.port.notices with cmdDone := true } }

/-- A command taken against its owner, in one event (R190). -/
def takeCommand (effect : State → Reply × State) (s : State) : State :=
  completeCommand (effect s).1 (effect s).2

/-- Claims that the rise of CS_N leaves: a read claim for a byte that will not shift out is withdrawn (R183). -/
def keptAtRise : List HostClaim → List HostClaim :=
  List.filter fun c => match c with | .read _ => false | .write _ _ => true

/-- CS_N rises: the transaction ends, SO is undriven (R182, R183, R184). -/
def endTransaction (s : State) : State :=
  s.setPort { s.port with spi := none, so := none, latch := none, claims := keptAtRise s.port.claims }

/-- GO is taken: outside LOADING and with BUSY clear (R44, R190). -/
def goTaken (s : State) : Bool := decide (s.station.mode ≠ .loading) && !s.port.busy

/-- The state in which a host command's row is taken: its bytes stand in the COMMAND area, and CS_N has risen. -/
def commandWritten (code tag : Byte) (params : List (Fin 16 × Byte)) (s : State) : State :=
  endTransaction (putCommand ([(0, code), (1, tag)] ++ params) s)

end Sys2Proof.Machine
end

