-- ==== Sys2Proof/Machine/ChannelCommands.lean ====
section
/-! DEFINITION. The channel commands: START, ARM, TRIGGER, RELEASE, CHANNEL_INFO (06_transfer_channels.md R95 to R102),
HOLD, RESUME, CANCEL, SET_DEADLINE, CLEAR_DEADLINE (07_holding_cancelling_and_deadlines.md R124 to R137). -/

namespace Sys2Proof.Machine

/-- The channel a parameter byte names. -/
def channelNo (b : Byte) : Option ChannelNo := if h : b.toNat < 8 then some ⟨b.toNat, h⟩ else none

/-- The channel number check, which every channel command makes first (R95). -/
def onChannel (act : ChannelNo → State → Reply × State) (s : State) : Reply × State :=
  match channelNo (s.cmd 2) with
  | none => (.refused .badArg 2, s)
  | some c => act c s

/-! ### Descriptors -/

/-- The op code of the op and window byte, bits 7–4. -/
def DescriptorArg.opCode (d : DescriptorArg) : Nat := d.opWindow.toNat / 16

/-- The window id of the op and window byte, bits 3–0. -/
def DescriptorArg.windowId (d : DescriptorArg) : Nat := d.opWindow.toNat % 16

/-- The frame size code, bits 2–0 of its byte. -/
def DescriptorArg.sizeCode (d : DescriptorArg) : Nat := d.sizeByte.toNat % 8

/-- The descriptor the parameters spell, where the checks of R96 pass. -/
def descriptorOf (d : DescriptorArg) : Descriptor :=
  { peer := Fin.ofNat 32 d.peer.toNat, op := Op.ofCode (DescriptorArg.opCode d), windowId := DescriptorArg.windowId d,
    remoteOffset := d.remoteOffset.toNat, localAddress := d.localAddress.toNat, total := d.total.toNat,
    sizeCode := DescriptorArg.sizeCode d, shortOk := d.sizeByte.getLsbD 7, progress := d.progress.toNat,
    next := channelNo d.next, deadline := d.deadline.toNat }

/-- Whether an op code is that of PUT or GET. -/
def movesWindow (op : Nat) : Bool := op == 1 || op == 2

/-- Check 4 of START: the offset of the first parameter that fails, in the order of the table (R96). -/
def badParameter (own : StationNo) (c : ChannelNo) (d : DescriptorArg) : Option Nat :=
  let op := DescriptorArg.opCode d
  if 31 < d.peer.toNat ∨ d.peer.toNat = own.val then some 3
  else if op < 1 ∨ 3 < op ∨ (movesWindow op ∧ 7 < DescriptorArg.windowId d) then some 4
  else if 4 < DescriptorArg.sizeCode d then some 5
  else if movesWindow op ∧ 32767 < d.remoteOffset.toNat then some 6
  else if 32768 < d.total.toNat then some 10
  else if 16 < d.progress.toNat then some 12
  else if d.next ≠ 0xFF#8 ∧ (7 < d.next.toNat ∨ d.next.toNat = c.val) then some 13
  else none

/-- Checks 4 and 5 of START, which ARM makes too (R96, R98). -/
def descriptorRefusal (own : StationNo) (c : ChannelNo) (d : DescriptorArg) : Option Reply :=
  match badParameter own c d with
  | some offset => some (.refused .badArg offset)
  | none => if 65536 < d.localAddress.toNat + d.total.toNat then some (.refused .range 0) else none

/-! ### START, ARM, TRIGGER, RELEASE -/

/-- IDLE, DONE and FAILED: the states START takes (R96). -/
def ChannelState.startable : ChannelState → Bool
  | idle | done | failed => true
  | _ => false

/-- Checks 2 to 6 of START (R96). -/
def startRefusal (c : ChannelNo) (d : DescriptorArg) (s : State) : Option Reply :=
  if s.station.mode ≠ .online then some (.refused .state 0)
  else if (s.channel c).state.startable = false then some (.refused .channelState 0)
  else
    match descriptorRefusal s.station.number c d with
    | some r => some r
    | none => if s.present (descriptorOf d).peer then none else some (.refused .peerAbsent 0)

/-- START of a channel (R96, R97). -/
def startOn (c : ChannelNo) (s : State) : Reply × State :=
  match startRefusal c s.descriptorArg s with
  | some r => (r, s)
  | none => (.ok [], startChannel c (s.setChannel c { s.channel c with desc := descriptorOf s.descriptorArg }))

/-- START (R96). -/
def startEffect (s : State) : Reply × State := onChannel startOn s

/-- WITHDRAWING, WITHDRAWN and CLASH, where ARM is refused with STATE (R98). -/
def StationMode.leaving : StationMode → Bool
  | withdrawing | withdrawn | clash => true
  | _ => false

/-- ARM's checks (R98). -/
def armRefusal (c : ChannelNo) (d : DescriptorArg) (s : State) : Option Reply :=
  if s.station.mode.leaving then some (.refused .state 0)
  else if ((s.channel c).state.startable || (s.channel c).state == .armed) = false then some (.refused .channelState 0)
  else descriptorRefusal s.station.number c d

/-- The record ARM leaves; fields R98 does not name keep their values (log 17). -/
def Channel.armedWith (ch : Channel) (d : Descriptor) : Channel :=
  { ch with desc := d, moved := 0, remaining := d.total, state := .armed, condition := .none, detail := 0 }

/-- ARM of a channel (R98). -/
def armOn (c : ChannelNo) (s : State) : Reply × State :=
  match armRefusal c s.descriptorArg s with
  | some r => (r, s)
  | none =>
    let s₁ := s.setChannel c ((s.channel c).armedWith (descriptorOf s.descriptorArg))
    (.ok [], if (s.channel c).state.ended then clearMarks c s₁ else s₁)

/-- ARM (R98). -/
def armEffect (s : State) : Reply × State := onChannel armOn s

/-- TRIGGER of a channel (R99). -/
def triggerOn (c : ChannelNo) (s : State) : Reply × State :=
  if s.station.mode ≠ .online then (.refused .state 0, s)
  else if (s.channel c).state ≠ .armed then (.refused .channelState 0, s)
  else if s.present (s.channel c).desc.peer then (.ok [], startChannel c s)
  else (.refused .peerAbsent 0, endChannel c .peerAbsent 0 s)

/-- TRIGGER (R99). -/
def triggerEffect (s : State) : Reply × State := onChannel triggerOn s

/-- RELEASE of a channel (R101). -/
def releaseOn (c : ChannelNo) (s : State) : Reply × State :=
  if (s.channel c).state.ended then
    (.ok [], clearMarks c (s.setChannel c { s.channel c with state := .idle, condition := .none, detail := 0 }))
  else (.refused .channelState 0, s)

/-- RELEASE (R101). -/
def releaseEffect (s : State) : Reply × State := onChannel releaseOn s

/-! ### CHANNEL_INFO -/

/-- The flags byte of CHANNEL_INFO part 0. -/
def Channel.flags (ch : Channel) : Byte :=
  byteOf (ch.toggle.toNat + 2 * ch.askInFlight.toNat + 4 * ch.holdPending.toNat + 8 * ch.endPending.isSome.toNat +
    16 * ch.timeoutMark.toNat)

/-- The held phase as a state code, 0 when not HELD (R193). -/
def Channel.heldCode (ch : Channel) : Nat := if ch.state = .held then ch.heldPhase.toState.code else 0

/-- Part 0 of CHANNEL_INFO (R102). -/
def Channel.info0 (ch : Channel) : List Byte :=
  [byteOf ch.state.code, byteOf ch.condition.code, ch.detail, byteOf ch.heldCode, ch.flags, byteOf ch.attempts] ++
    wordBytes ch.moved ++ wordBytes ch.remaining ++ wordBytes (timeLeft ch.deadlineTimer)

/-- Part 1 of CHANNEL_INFO (R102). -/
def Channel.info1 (ch : Channel) : List Byte :=
  let d := ch.desc
  [byteOf d.peer.val, byteOf (16 * d.op.code + d.windowId), byteOf (128 * d.shortOk.toNat + d.sizeCode)] ++
    wordBytes d.remoteOffset ++ wordBytes d.localAddress ++ wordBytes d.total ++
    [byteOf d.progress, (d.next.map fun n => byteOf n.val).getD 0xFF#8]

/-- Part 2 of CHANNEL_INFO (R102). -/
def Channel.info2 (ch : Channel) : List Byte :=
  wordBytes ch.desc.deadline ++ wordBytes (timeLeft ch.dataWait) ++
    [byteOf ch.progressCount, byteOf ((ch.endPending.map Condition.code).getD 0), byteOf ch.abortReason.condition.code]

/-- CHANNEL_INFO of a channel (R102). -/
def channelInfoOn (c : ChannelNo) (s : State) : Reply × State :=
  if s.cmd 3 = 0#8 then (.ok (s.channel c).info0, s)
  else if s.cmd 3 = 1#8 then (.ok (s.channel c).info1, s)
  else if s.cmd 3 = 2#8 then (.ok (s.channel c).info2, s)
  else (.refused .badArg 3, s)

/-- CHANNEL_INFO (R102). -/
def channelInfoEffect (s : State) : Reply × State := onChannel channelInfoOn s

/-! ### HOLD, RESUME, CANCEL -/

/-- HOLD of a channel (R124). -/
def holdOn (c : ChannelNo) (s : State) : Reply × State :=
  let ch := s.channel c
  match ch.state.phase with
  | some p =>
    if ch.askInFlight then (.pending, s.setChannel c { ch with holdPending := true }) else (.ok [], enterHeld c p s)
  | none => if ch.state = .held then (.ok [], s) else (.refused .channelState 0, s)

/-- HOLD (R124). -/
def holdEffect (s : State) : Reply × State := onChannel holdOn s

/-- A HELD channel goes on in its held phase (R128). -/
def resumeChannel (c : ChannelNo) (s : State) : State :=
  let ch := s.channel c
  let s₁ := s.setChannel c { ch with state := ch.heldPhase.toState }
  match ch.heldPhase with
  | .request => s₁
  | .data =>
    if ch.desc.op = .put then (if ch.built then s₁ else claimFrame c s₁)
    else s₁.setChannel c { s₁.channel c with dataWait := some s.idleLength }
  | .close => s₁

/-- RESUME of a channel (R128). -/
def resumeOn (c : ChannelNo) (s : State) : Reply × State :=
  if (s.channel c).state = .held then (.ok [], resumeChannel c s) else (.refused .channelState 0, s)

/-- RESUME (R128). -/
def resumeEffect (s : State) : Reply × State := onChannel resumeOn s

/-- Whether CANCEL answers PENDING: a phase with an ask in flight (R130, R131). -/
def Channel.endPends (ch : Channel) : Bool := ch.state.phase.isSome && ch.askInFlight

/-- CANCEL of a channel (R130). -/
def cancelOn (c : ChannelNo) (s : State) : Reply × State :=
  if (s.channel c).state = .armed then (.ok [], endChannel c .cancelled 0 s)
  else (if (s.channel c).endPends then .pending else .ok [], giveUp c .cancelled s)

/-- CANCEL (R130). -/
def cancelEffect (s : State) : Reply × State := onChannel cancelOn s

/-! ### Deadlines -/

/-- REQUEST, DATA, CLOSE and HELD (R94). -/
def ChannelState.running : ChannelState → Bool
  | request | data | close | held => true
  | _ => false

/-- SET_DEADLINE of a channel (R136). -/
def setDeadlineOn (c : ChannelNo) (s : State) : Reply × State :=
  let ch := s.channel c
  let ms := (s.cmdWord 3 4).toNat
  if ms = 0 then (.refused .badArg 3, s)
  else if ch.state.running then
    (.ok [], s.setChannel c { ch with desc := { ch.desc with deadline := ms }, deadlineTimer := some ms })
  else if ch.state = .armed then (.ok [], s.setChannel c { ch with desc := { ch.desc with deadline := ms } })
  else (.refused .channelState 0, s)

/-- SET_DEADLINE (R136). -/
def setDeadlineEffect (s : State) : Reply × State := onChannel setDeadlineOn s

/-- CLEAR_DEADLINE of a channel (R137). -/
def clearDeadlineOn (c : ChannelNo) (s : State) : Reply × State :=
  let ch := s.channel c
  if ch.state.running && ch.deadlineTimer.isSome then
    (.ok [], s.setChannel c { ch with desc := { ch.desc with deadline := 0 }, deadlineTimer := none })
  else if ch.state = .armed then (.ok [], s.setChannel c { ch with desc := { ch.desc with deadline := 0 } })
  else (.ok [], s)

/-- CLEAR_DEADLINE (R137). -/
def clearDeadlineEffect (s : State) : Reply × State := onChannel clearDeadlineOn s

end Sys2Proof.Machine
end

