-- ==== Sys2Proof/Machine/Contexts.lean ====
section
/-! DEFINITION. The Responder Engine: how a REQUEST is matched, checked and accepted, how a context receives, sends and
ends, and how it acts on commands, peer and station events (08_responder_contexts.md; windows' part: 05_windows.md). -/

namespace Sys2Proof.Machine

/-! ### Windows as the engine asks of them (R85 to R87) -/

/-- The directory record of a window (R34). -/
def directoryRecord (id : Fin 8) (w : Window) : List Byte :=
  [byteOf id.val, byteOf w.access.code, byteOf w.sizeCode, 0#8] ++ wordBytes w.valid ++ [0#8, 0#8]

/-- The directory snapshot for a station: the windows open to it, in ascending id (R86, R87). -/
def directory (s : State) (p : StationNo) : List Byte :=
  (allWindows.filter fun w => (s.window w).isOpen && (s.window w).admits p).flatMap
    fun w => directoryRecord w (s.window w)

/-! ### Ends and frees (R142, R143, R162) -/

/-- A read claim of the slot not yet served is withdrawn (R172). -/
def withdrawContextClaim (k : SlotNo) (s : State) : State :=
  s.setCtxs { s.ctxs with claims := s.ctxs.claims.filter fun cl => cl.slot ≠ k }

/-- The slot leaves the linger order, wherever it stands (R143). -/
def leaveLinger (k : SlotNo) (s : State) : State :=
  s.setCtxs { s.ctxs with linger := s.ctxs.linger.filter fun j => j ≠ k }

/-- The slot joins the tail of the linger order (R143). -/
def joinLinger (k : SlotNo) (s : State) : State := s.setCtxs { s.ctxs with linger := s.ctxs.linger ++ [k] }

/-- The record of a freed slot: its exchange's fields stay, timers stopped, flags clear, source empty (R142). -/
def Context.freed (x : Context) : Context :=
  { x with state := .free, pauseTimer := none, idleTimer := none, askInFlight := false, finalMark := false,
           built := false }

/-- A slot becomes FREE without an arrival record (R142, R143). -/
def freeContext (k : SlotNo) (s : State) : State :=
  leaveLinger k (withdrawContextClaim k (s.setContext k (s.context k).freed))

/-- The valid length a stored REPORT carries: that of the window as it stands, 0 for LIST (R162). -/
def reportValid (s : State) (x : Context) : Nat := if x.op = .list then 0 else (s.window x.windowId).valid

/-- The record of a context that ends (R162, steps 1, 3 and 5). -/
def Context.endedWith (x : Context) (r : Result) (valid : Nat) : Context :=
  { x with result := some r, stored := some { result := r, count := x.moved, valid := valid }, pauseTimer := none,
           askInFlight := false, finalMark := false, built := false }

/-- The arrival record of a context's end (R163). -/
def Context.arrival (x : Context) (r : Result) : Arrival :=
  { windowId := if x.op = .list then none else some x.windowId, initiator := x.initiator, xch := x.xch, op := x.op,
    offset := if x.op = .list then 0 else x.offset, count := x.moved, result := r }

/-- A PUT that ends OK raises its window's valid length (R84; R162, step 2). -/
def raiseValid (x : Context) (r : Result) (s : State) : State :=
  if x.op = .put ∧ r = .ok then
    s.setWindow x.windowId { s.window x.windowId with valid := max (s.window x.windowId).valid (x.offset + x.moved) }
  else s

/-- A context ends with a result, in the order of R162's steps. -/
def endContext (k : SlotNo) (r : Result) (s : State) : State :=
  let x := s.context k
  let s₁ := raiseValid x r s
  let x₁ := x.endedWith r (reportValid s₁ x)
  let s₂ := withdrawContextClaim k (appendArrival (x.arrival r) s₁)
  if r.lingers then
    joinLinger k (s₂.setContext k { x₁ with state := .lingering, idleTimer := some s.idleLength })
  else s₂.setContext k { x₁ with state := .free, idleTimer := none }

/-! ### Building DATA (R153) -/

/-- The payload bytes of the context's next DATA. -/
def Context.nextLength (x : Context) : Nat := min (frameSize x.sizeCode) (x.amount - x.moved)

/-- The buffer address of the context's next byte (R150, R153). -/
def contextAddress (s : State) (x : Context) : Nat := (s.window x.windowId).base + x.offset + x.moved

/-- The context builds its next DATA: LIST from its snapshot, a zero-length GET frame at once, a GET by a claim. -/
def buildData (k : SlotNo) (s : State) : State :=
  let x := s.context k
  if x.op = .list then s.setContext k (x.withFrame ((x.snapshot.drop x.moved).take x.nextLength))
  else if x.nextLength = 0 then s.setContext k (x.withFrame [])
  else
    let s₁ := s.setContext k { x with built := false, attempts := 0, finalMark := false }
    s₁.setCtxs { s₁.ctxs with
      claims := s₁.ctxs.claims ++ [{ slot := k, address := contextAddress s x, length := x.nextLength }] }

/-! ### Taking a REQUEST (R145 to R149) -/

/-- The slot that holds an exchange identity (R140, R144). -/
def holder (s : State) (p : StationNo) (xch : ChannelNo) : Option SlotNo :=
  allSlots.find? fun k => (s.context k).state != .free && (s.context k).initiator == p && (s.context k).xch == xch

/-- The match of a REQUEST empties the slot that holds its identity (R145). -/
def supersede (p : StationNo) (xch : ChannelNo) (s : State) : State :=
  match holder s p xch with
  | none => s
  | some k => if (s.context k).state = .lingering then freeContext k s else endContext k .superseded s

/-- Whether two ranges on one window share a byte; a range with total 0 meets none (R148). -/
def rangesMeet (off₁ total₁ off₂ total₂ : Nat) : Bool :=
  decide (0 < total₁ ∧ 0 < total₂ ∧ off₁ < off₂ + total₂ ∧ off₂ < off₁ + total₁)

/-- Whether a REQUEST's range conflicts with an active context's (R148). -/
def conflicts (op : Op) (w : Nat) (off total : Nat) (x : Context) : Bool :=
  x.state.active && x.op != .list && x.windowId.val == w && rangesMeet off total x.offset x.total &&
    (x.op == .put || op == .put)

/-- The slot an accepted REQUEST takes: the slot its match emptied, else the lowest FREE slot, else the head of the
linger order (R147). -/
def chooseSlot (emptied : Option SlotNo) (s : State) : Option SlotNo :=
  match emptied with
  | some k => some k
  | none =>
    match allSlots.find? fun k => (s.context k).state == .free with
    | some k => some k
    | none => s.ctxs.linger.head?

/-- Check 2 of a REQUEST (R146). -/
def requestGood (q : RequestBody) : Bool :=
  decide (1 ≤ q.op.toNat ∧ q.op.toNat ≤ 3 ∧ q.sizeCode.toNat ≤ 4 ∧ q.windowId.toNat ≤ 7 ∧ q.total.toNat ≤ 32768)

/-- The window id of a REQUEST that passed check 2. -/
def requestWindow (q : RequestBody) : Fin 8 := Fin.ofNat 8 q.windowId.toNat

/-- The checks of a REQUEST after its match, in order; the reason of the first that fails (R146). -/
def requestRefusal (p : StationNo) (q : RequestBody) (emptied : Option SlotNo) (s : State) : Option Byte :=
  let op := Op.ofCode q.op.toNat
  let w := s.window (requestWindow q)
  if s.station.mode = .withdrawing then some reasonWithdrawing
  else if !requestGood q then some reasonBadRequest
  else if chooseSlot emptied s = none then some reasonBusy
  else if op = .list then none
  else if !w.isOpen then some reasonNoWindow
  else if !w.admits p then some reasonDenied
  else if op = .put ∧ w.access ≠ .readWrite then some reasonReadOnly
  else if w.size < q.offset.toNat + q.total.toNat then some reasonRange
  else if allSlots.any fun k => conflicts op q.windowId.toNat q.offset.toNat q.total.toNat (s.context k) then
    some reasonConflict
  else none

/-- The bytes a GET will send: the smaller of total and what is valid past the offset (R85, R149). -/
def getAmount (w : Window) (offset total : Nat) : Nat := min total (w.valid - offset)

/-- The record of an accepted REQUEST before its first DATA is built (R149; fields R149 does not name: log 19). -/
def acceptedContext (p : StationNo) (xch : ChannelNo) (q : RequestBody) (s : State) : Context :=
  let op := Op.ofCode q.op.toNat
  let total := q.total.toNat
  let snapshot := if op = .list then directory s p else []
  let amount :=
    match op with
    | .get => getAmount (s.window (requestWindow q)) q.offset.toNat total
    | .list => min total snapshot.length
    | _ => 0
  { state := if total = 0 then .drained else if op = .put then .receiving else .sending,
    initiator := p, xch := xch, op := op, windowId := requestWindow q, offset := q.offset.toNat, total := total,
    sizeCode := q.sizeCode.toNat, amount := amount, moved := 0, toggle := false, heldFrame := HeldFrame.empty,
    built := false, finalMark := false, attempts := 0, askInFlight := false, pauseTimer := none,
    idleTimer := some s.idleLength, result := none, stored := none, snapshot := snapshot }

/-- A REQUEST accepted into a slot; a LINGERING slot is reclaimed first (R147, R149). -/
def acceptRequest (k : SlotNo) (p : StationNo) (xch : ChannelNo) (q : RequestBody) (s : State) : State :=
  let s₁ := if (s.context k).state = .lingering then freeContext k s else s
  let x := acceptedContext p xch q s₁
  let s₂ := s₁.setContext k x
  if x.state = .sending then buildData k s₂ else s₂

/-- A REQUEST addressed to this station, in ONLINE or WITHDRAWING (R38, R145, R146). -/
def takeRequest (p : StationNo) (xch : ChannelNo) (q : RequestBody) (s : State) : Answer × State :=
  let emptied := holder s p xch
  let s₁ := supersede p xch s
  match requestRefusal p q emptied s₁ with
  | some reason => (.refuse reason, s₁)
  | none =>
    match chooseSlot emptied s₁ with
    | some k => (.accept, acceptRequest k p xch q s₁)
    | none => (.refuse reasonBusy, s₁)

/-! ### DATA, CLOSE and ABORT with DIR 0 (R144, R150 to R152, R157 to R159) -/

/-- The REPORT a slot has stored, as an answer (R159, R162). -/
def storedAnswer (s : State) (k : SlotNo) : Answer := .report (((s.context k).stored.map Report.payload).getD [])

/-- A context ends and answers with the REPORT the end stores (R162). -/
def endAndReport (k : SlotNo) (r : Result) (s : State) : Answer × State :=
  (storedAnswer (endContext k r s) k, endContext k r s)

/-- The idle timer restarts (R160). -/
def restartIdle (k : SlotNo) (s : State) : State :=
  s.setContext k { s.context k with idleTimer := some s.idleLength }

/-- The payload length a RECEIVING context needs of a new DATA (R150). -/
def Context.needed (x : Context) : Nat := min (frameSize x.sizeCode) (x.total - x.moved)

/-- A new DATA's payload written, and the context moved on (R150). -/
def receiveBytes (k : SlotNo) (payload : List Byte) (s : State) : State :=
  let s₁ := writePayload .responders (contextAddress s (s.context k)) payload s
  let x := s₁.context k
  let moved := x.moved + payload.length
  s₁.setContext k { x with
    moved := moved, toggle := !x.toggle, idleTimer := some s.idleLength,
    state := if moved = x.total then .drained else x.state }

/-- A DATA with DIR 0 that matches slot k (R144, R150, R152, R159). -/
def dataToContext (k : SlotNo) (tgl : Bool) (payload : List Byte) (s : State) : Answer × State :=
  let x := s.context k
  if x.state = .lingering then (storedAnswer s k, s)
  else if x.op ≠ .put then endAndReport k .badData s
  else if tgl ≠ x.toggle then (.ack tgl, restartIdle k s)
  else if x.state = .receiving ∧ payload.length = x.needed then (.ack tgl, receiveBytes k payload s)
  else endAndReport k .badData s

/-- A CLOSE that matches slot k (R144, R157, R159). -/
def closeToContext (k : SlotNo) (s : State) : Answer × State :=
  match (s.context k).state with
  | .lingering => (storedAnswer s k, s)
  | .drained => endAndReport k .ok s
  | _ => endAndReport k .closedEarly s

/-- An ABORT that matches slot k (R144, R158, R159). -/
def abortToContext (k : SlotNo) (s : State) : Answer × State :=
  match (s.context k).state with
  | .lingering => (storedAnswer s k, s)
  | _ => endAndReport k .aborted s

/-- A frame with DIR 0 by its exchange identity: NO_EXCHANGE where no slot holds it, WITHDRAWING in WITHDRAWING
(R38, R144, R159). -/
def byIdentity (p : StationNo) (xch : ChannelNo) (act : SlotNo → State → Answer × State) (s : State) : Answer × State :=
  if s.station.mode = .withdrawing then (.refuse reasonWithdrawing, s)
  else
    match holder s p xch with
    | none => (.refuse reasonNoExchange, s)
    | some k => act k s

/-! ### Outcomes of a SENDING context's DATA (R154 to R156) -/

/-- NO_ANSWER, and an answer that counts as none (R154). -/
def contextNoAnswer (k : SlotNo) (s : State) : State :=
  let s₁ := s.setContext k { s.context k with attempts := (s.context k).attempts + 1 }
  if (s.context k).attempts + 1 < s.attemptLimit then s₁ else endContext k .retryExhausted s₁

/-- ACK with the held frame's TGL (R154). -/
def contextConfirmed (k : SlotNo) (s : State) : State :=
  let x := s.context k
  let x₁ := { x with moved := x.moved + x.heldFrame.payload.length, toggle := !x.toggle, attempts := 0,
                     idleTimer := some s.idleLength }
  if x.finalMark then s.setContext k { x₁ with state := .drained, built := false }
  else buildData k (s.setContext k x₁)

/-- WAIT to the held frame (R155). -/
def contextWaits (k : SlotNo) (s : State) : State :=
  s.setContext k { s.context k with
    attempts := 0, idleTimer := some s.idleLength, pauseTimer := some s.presenceLength }

/-- The answer to a context's DATA (R154). An ACK with the other TGL counts as no answer and does not restart the idle
timer: the model's reading where R154 and R160 leave it open (log 30). -/
def contextTaken (k : SlotNo) (a : Answer) (s : State) : State :=
  match a with
  | .ack t => if t = (s.context k).heldFrame.tgl then contextConfirmed k s else contextNoAnswer k s
  | .wait => contextWaits k s
  | .refuse _ => endContext k .initiatorGone (s.setContext k { s.context k with attempts := 0 })
  | .accept => contextNoAnswer k s
  | .report _ => contextNoAnswer k s

/-- The outcome of a slot's ask; a slot whose ask-in-flight flag is clear discards it (R154, R156). -/
def contextOutcome (k : SlotNo) (o : AskOutcome) (s : State) : State :=
  if (s.context k).askInFlight then
    let s₁ := s.setContext k { s.context k with askInFlight := false }
    match o with
    | .taken a => contextTaken k a s₁
    | .noAnswer => contextNoAnswer k s₁
    | .collided => s₁
  else s

/-! ### Ends by other events (R165 to R167) -/

/-- Slot k if it is active and meets a condition ends with a result; a LINGERING one that meets it is freed when
`freeing` is set. -/
def endWhere (cond : Context → Bool) (r : Result) (freeing : Bool) (s : State) (k : SlotNo) : State :=
  if cond (s.context k) then
    if (s.context k).state.active then endContext k r s
    else if (s.context k).state = .lingering ∧ freeing = true then freeContext k s
    else s
  else s

/-- Whether CLOSE_WINDOW of w ends a context: an active PUT or GET on w (R165). -/
def onWindow (w : Fin 8) (x : Context) : Bool := x.op != .list && x.windowId == w

/-- The number of active contexts on a window (R90). -/
def activeOn (s : State) (w : Fin 8) : Nat :=
  (allSlots.filter fun k => (s.context k).state.active && onWindow w (s.context k)).length

/-- CLOSE_WINDOW's request to the engine (R165). -/
def contextsWindowClosed (w : Fin 8) (s : State) : State :=
  allSlots.foldl (endWhere (onWindow w) .windowClosed false) s

/-- A peer event: every context of the initiator (R166). -/
def contextsPeerEvent (p : StationNo) (s : State) : State :=
  allSlots.foldl (endWhere (fun x => x.initiator == p) .peerGone true) s

/-- Entry to WITHDRAWING (R167). -/
def contextsWithdraw (s : State) : State := allSlots.foldl (endWhere (fun _ => true) .withdrawn true) s

/-- Entry to CLASH (R167). -/
def contextsClash (s : State) : State := allSlots.foldl (endWhere (fun _ => true) .clash true) s

end Sys2Proof.Machine
end

