-- ==== Sys2Proof/Machine/ContextCommands.lean ====
section
/-! DEFINITION. The context commands: CONTEXT_INFO and DROP_CONTEXT (08_responder_contexts.md R168, R169). -/

namespace Sys2Proof.Machine

/-- The slot a parameter byte names. -/
def slotNo (b : Byte) : Option SlotNo := if h : b.toNat < 4 then some ⟨b.toNat, h⟩ else none

/-- The flags byte of CONTEXT_INFO part 0. -/
def Context.flags (x : Context) : Byte :=
  byteOf (x.askInFlight.toNat + 2 * x.pauseTimer.isSome.toNat + 4 * x.finalMark.toNat)

/-- Part 0 of CONTEXT_INFO (R169). -/
def Context.info0 (x : Context) : List Byte :=
  [byteOf x.state.code, byteOf x.initiator.val, byteOf x.xch.val, byteOf x.op.code, byteOf x.windowId.val,
    byteOf x.sizeCode, byteOf x.toggle.toNat, byteOf x.attempts, x.flags,
    (x.result.map fun r => byteOf r.code).getD 0xFF#8]

/-- Part 1 of CONTEXT_INFO (R169). -/
def Context.info1 (x : Context) : List Byte :=
  wordBytes x.offset ++ wordBytes x.total ++ wordBytes x.amount ++ wordBytes x.moved ++
    wordBytes (timeLeft x.idleTimer) ++ wordBytes (timeLeft x.pauseTimer)

/-- A slot's place in the linger order: 1 for the oldest, 0 when not lingering (R169). -/
def lingerPlace (k : SlotNo) (s : State) : Nat :=
  if s.ctxs.linger.contains k then s.ctxs.linger.idxOf k + 1 else 0

/-- Part 2 of CONTEXT_INFO (R169). -/
def contextInfo2 (k : SlotNo) (s : State) : List Byte :=
  let x := s.context k
  [byteOf ((x.stored.map fun r => r.result.code).getD 0), 0#8] ++ wordBytes ((x.stored.map Report.count).getD 0) ++
    wordBytes ((x.stored.map Report.valid).getD 0) ++ [byteOf (lingerPlace k s), byteOf s.freeSlots]

/-- CONTEXT_INFO (R169). -/
def contextInfoEffect (s : State) : Reply × State :=
  match slotNo (s.cmd 2) with
  | none => (.refused .badArg 2, s)
  | some k =>
    if s.cmd 3 = 0#8 then (.ok (s.context k).info0, s)
    else if s.cmd 3 = 1#8 then (.ok (s.context k).info1, s)
    else if s.cmd 3 = 2#8 then (.ok (contextInfo2 k s), s)
    else (.refused .badArg 3, s)

/-- DROP_CONTEXT of a slot, by its state (R168). -/
def dropOn (k : SlotNo) (s : State) : Reply × State :=
  let before := byteOf (s.context k).state.code
  match (s.context k).state with
  | .free => (.ok [before, 0#8], s)
  | .lingering => (.ok [before, 2#8], freeContext k s)
  | _ => (.ok [before, 1#8], endContext k .hostDropped s)

/-- DROP_CONTEXT (R168). -/
def dropContextEffect (s : State) : Reply × State :=
  match slotNo (s.cmd 2) with
  | none => (.refused .badArg 2, s)
  | some k => dropOn k s

end Sys2Proof.Machine
end

