-- ==== Sys2Proof/Machine/Peers.lean ====
section
/-! DEFINITION. The Peer Table: refreshes, announcements, arrivals and departures, its clearing, and this station's own
PRESENCE timer (04_the_peer_table.md). -/

namespace Sys2Proof.Machine

/-- An event the Peer Table passes to the engines (R68). -/
inductive PeerEvent where
  | left | lost | restarted
deriving DecidableEq, Repr

/-- The condition a channel takes from a peer event (R121). -/
def PeerEvent.condition : PeerEvent → Condition
  | left => .peerLeft | lost => .peerLost | restarted => .peerRestarted

/-- Both engines are told (R68). -/
def tellEngines (p : StationNo) (e : PeerEvent) (s : State) : State :=
  contextsPeerEvent p (channelsPeerEvent p e.condition s)

/-- A valid frame refreshes its sender's entry (R62, R63, R69). -/
def refreshPeer (p : StationNo) (s : State) : State :=
  let e := s.peer p
  let s₁ := s.setPeer p { e with state := .present, expiry := some (s.expiryLength e.announced) }
  if e.state = .present then s₁ else raisePeerChange s₁

/-- The announced fields a JOIN or PRESENCE records: an interval of 0 is not recorded, the counts stop at 8 and 4
(R63). -/
def Peer.announce (e : Peer) (a : Announcement) : Peer :=
  { e with
    announced := if a.interval = 0#8 then e.announced else some a.interval.toNat,
    openWindows := min a.openWindows.toNat 8, freeContexts := min a.freeContexts.toNat 4 }

/-- The entry as a JOIN or PRESENCE leaves it: announced fields first, then the expiry timer with the new length
(R63 to R65). -/
def announcedPeer (s : State) (e : Peer) (a : Announcement) : Peer :=
  { e.announce a with state := .present, expiry := some (s.expiryLength (e.announce a).announced) }

/-- A valid JOIN: a first join, or a restart of a PRESENT peer (R64). -/
def peerJoined (p : StationNo) (a : Announcement) (s : State) : State :=
  let e := s.peer p
  let s₁ := s.setPeer p { announcedPeer s e a with joinCount := min (e.joinCount + 1) 255 }
  raisePeerChange (if e.state = .present then tellEngines p .restarted s₁ else s₁)

/-- A valid PRESENCE (R65). -/
def peerAnnounced (p : StationNo) (a : Announcement) (s : State) : State :=
  let e := s.peer p
  let s₁ := s.setPeer p (announcedPeer s e a)
  if e.state = .present then s₁ else raisePeerChange s₁

/-- A PRESENT entry becomes ABSENT and keeps its other fields; the engines are told (R66, R67). -/
def peerGone (p : StationNo) (why : PeerEvent) (s : State) : State :=
  raisePeerChange (tellEngines p why (s.setPeer p { s.peer p with state := .absent, expiry := none }))

/-- A valid LEAVE; one from an ABSENT station does nothing (R66). -/
def peerLeaves (p : StationNo) (s : State) : State := if s.present p then peerGone p .left s else s

/-- The table cleared: entries of other stations, the presence timer and a due PRESENCE (R60, R70). -/
def clearPeers (selfJoins : Nat) (s : State) : State :=
  (s.setPeers (PeerTable.cleared s.station.number selfJoins)).setStation { s.station with presenceDue := false }

/-- Whether any entry is PRESENT. -/
def State.anyPresent (s : State) : Bool := allStations.any s.present

/-- The clearing on entry to WITHDRAWN or CLASH: PEER_CHANGE is set if an entry was PRESENT, SELF stays (R61, R69). -/
def clearPeersNoticed (s : State) : State :=
  let s₁ := clearPeers (s.peer s.station.number).joinCount s
  if s.anyPresent then raisePeerChange s₁ else s₁

/-- The presence timer stopped and a due PRESENCE removed (R70). -/
def stopPresence (s : State) : State :=
  (s.setPeers { s.peers with presenceTimer := none }).setStation { s.station with presenceDue := false }

/-- A completed own asking frame is reported: in ONLINE the presence timer restarts and a due PRESENCE goes (R71). -/
def restartPresence (s : State) : State :=
  if s.station.mode = .online then
    (s.setPeers { s.peers with presenceTimer := some s.presenceLength }).setStation { s.station with presenceDue := false }
  else s

end Sys2Proof.Machine
end

