-- ==== Sys2Proof/Machine/StationLife.lean ====
section
/-! DEFINITION. The station states: entry to each, the end of LOADING, a clash, a pending withdrawal, RESTART's
clearing and the full reset (03_station_life.md; 01_the_station_line.md R4 to R6). -/

namespace Sys2Proof.Machine

/-- The station state changes and STATE_CHANGE is set (R42). -/
def enterMode (m : StationMode) (s : State) : State := raiseStateChange (s.setStation { s.station with mode := m })

/-- Entry to LISTENING: the listen timer starts, the receiver comes on, L is UNKNOWN (R4, R5, R51). -/
def enterListening (s : State) : State :=
  let s₁ := enterMode .listening s
  (s₁.setStation { s₁.station with listenTimer := some s.listenLength }).setLau
    { s.lau with phase := .quiet, last := none, recovery := false, ask := none, answer := none }

/-- Entry to JOINING: JOIN is ready (R52). -/
def enterJoining (s : State) : State :=
  let s₁ := enterMode .joining s
  s₁.setStation { s₁.station with joinReady := true, listenTimer := none }

/-- LISTENING ends in JOINING when the listen timer has run out and L is known (R51). -/
def checkListening (s : State) : State :=
  if s.station.mode = .listening ∧ s.station.listenTimer = none ∧ s.lau.last ≠ none then enterJoining s else s

/-- Entry to WITHDRAWING (R55, R70, R122, R167). -/
def enterWithdrawing (s : State) : State :=
  let s₁ := enterMode .withdrawing s
  stopPresence (contextsWithdraw (channelsWithdraw
    (s₁.setStation { s₁.station with leaveReady := true, joinReady := false, withdrawPending := false })))

/-- The station source emptied, the withdraw-pending flag clear, the listen timer stopped (R42). -/
def Station.emptied (x : Station) : Station :=
  { x with joinReady := false, leaveReady := false, presenceDue := false, withdrawPending := false, listenTimer := none }

/-- The LAU silent, nothing in flight (R4, R6). -/
def Lau.silenced (x : Lau) : Lau := { x with phase := .silent, ask := none, answer := none }

/-- Entry to WITHDRAWN (R56, R70). -/
def enterWithdrawn (s : State) : State :=
  let s₁ := enterMode .withdrawn s
  clearPeersNoticed ((s₁.setStation s₁.station.emptied).setLau s.lau.silenced)

/-- Entry to WITHDRAWN straight from OFFLINE, LISTENING or JOINING: for the engines an entry to WITHDRAWING comes
first (R56). -/
def withdrawAtOnce (s : State) : State := enterWithdrawn (contextsWithdraw (channelsWithdraw s))

/-- Entry to CLASH (R6, R57, R123, R167). -/
def enterClash (s : State) : State :=
  let s₁ := enterMode .clash s
  contextsClash (channelsClash (clearPeersNoticed
    (((s₁.setStation s₁.station.emptied).setLau s.lau.silenced).setRx [])))

/-- A clash report from the LAU (R19, R20, R57). -/
def reportClash (s : State) : State := if s.station.mode.onLine then enterClash s else s

/-- At the end of an own transmission a pending withdrawal takes effect in the state reached (R54). -/
def applyWithdrawal (s : State) : State :=
  if s.station.withdrawPending then
    let s₁ := s.setStation { s.station with withdrawPending := false }
    match s.station.mode with
    | .online => enterWithdrawing s₁
    | .joining => withdrawAtOnce s₁
    | _ => s₁
  else s

/-- OFFLINE, or LISTENING where AUTO_JOIN is 1 (R47, R58). -/
def enterFirstMode (s : State) : State :=
  if s.station.conf.autoJoin then enterListening s else enterMode .offline s

/-- LOADING ends when both tasks have finished (R47, R197). -/
def endLoading (s : State) : State :=
  match s.station.readDone with
  | some (conf, source) =>
    if s.station.clearDone then
      let s₁ := s.setStation { s.station with conf := conf, confSource := source }
      let s₂ := s₁.setPort { s₁.port with
        busy := false,
        notices := { s₁.port.notices with
          config := s₁.port.notices.config || source == .partially || source == .badImage } }
      enterFirstMode s₂
    else s
  | none => s

/-- What RESTART clears (R4, R35, R58, R93, R123, R142, R196), before the station's new state. -/
def restartClear (s : State) : State :=
  let s₁ := clearPeers 0 ((s.setLau Lau.reset).setRx [])
  let s₂ := ((s₁.setStation s₁.station.emptied).setChans ChannelEngine.reset).setCtxs ResponderEngine.reset
  s₂.setPort { s₂.port with
    ended := 0, progress := 0, notices := { s₂.port.notices with peerChange := false } }

/-- RESTART's whole effect before its result (R58). -/
def restartStation (s : State) : State := enterFirstMode (restartClear s)

/-- Every block at its full-reset value, with the straps and the level of RESET_N given. Buffer memory is not
touched: the clearing of LOADING overwrites it (R43, R170). -/
def fullReset (sn : StationNo) (rate : Fin 4) (held : Bool) (s : State) : State :=
  { State.reset with
    pins := { s.pins with resetHeld := held }, station := Station.reset sn rate, peers := PeerTable.cleared sn 0,
    buffer := { cells := s.buffer.cells, pointer := .responders }, freeCount := s.freeCount, pending := s.pending }

end Sys2Proof.Machine
end

