-- ==== Sys2Proof/Machine/StationCommands.lean ====
section
/-! DEFINITION. The station commands: JOIN, WITHDRAW, RESTART, STATION_INFO (03_station_life.md R50 to R59). -/

namespace Sys2Proof.Machine

/-- The station state code as a result byte (R41). -/
def State.modeByte (s : State) : Byte := byteOf s.station.mode.code

/-- Status STATE with the station state in RESULT byte 4, as JOIN and WITHDRAW report it (R191). -/
def refusedWithState (s : State) : Reply := { status := .state, detail := 0, body := [s.modeByte] }

/-- JOIN (R50). -/
def joinEffect (s : State) : Reply × State :=
  if s.station.mode = .offline then (.ok [(enterListening s).modeByte], enterListening s) else (refusedWithState s, s)

/-- The withdraw-pending flag set (R54). -/
def pendWithdrawal (s : State) : State := s.setStation { s.station with withdrawPending := true }

/-- The state WITHDRAW leaves, by the station state and whether this station is sending (R53). -/
def withdrawn (s : State) : State :=
  match s.station.mode with
  | .offline => withdrawAtOnce s
  | .listening => withdrawAtOnce s
  | .joining => if s.lau.phase.sending then pendWithdrawal s else withdrawAtOnce s
  | .online => if s.lau.phase.sending then pendWithdrawal s else enterWithdrawing s
  | _ => s

/-- The states in which WITHDRAW is taken (R53). -/
def StationMode.mayWithdraw : StationMode → Bool
  | offline | listening | joining | online | withdrawing => true
  | _ => false

/-- WITHDRAW (R53); its result is the station state the command leaves (log 9). -/
def withdrawEffect (s : State) : Reply × State :=
  if s.station.mode.mayWithdraw then (.ok [(withdrawn s).modeByte], withdrawn s) else (refusedWithState s, s)

/-- RESTART (R58). -/
def restartEffect (s : State) : Reply × State := (.ok [(restartStation s).modeByte], restartStation s)

/-- The results of STATION_INFO (R59; 10_host_port.md 10.4). -/
def stationInfoBody (s : State) : List Byte :=
  [s.modeByte, byteOf s.station.number.val, byteOf s.station.rate.val, byteOf s.station.conf.retryLimit,
    byteOf s.station.conf.presenceInterval, byteOf s.station.conf.idleLimit, byteOf s.station.conf.autoJoin.toNat,
    byteOf s.station.confSource.code, (s.lau.last.map fun l => byteOf l.val).getD 0xFF#8, byteOf s.lau.clash]

/-- STATION_INFO (R59). -/
def stationInfoEffect (s : State) : Reply × State := (.ok (stationInfoBody s), s)

end Sys2Proof.Machine
end

