-- ==== Sys2Proof/Machine/TableCommands.lean ====
section
/-! DEFINITION. The commands over the Peer Table, the Window Table and the Arrival Queue: PEER_INFO (R74), OPEN_WINDOW,
CLOSE_WINDOW, SET_VALID, WINDOW_INFO (05_windows.md R77 to R90), TAKE_ARRIVAL (R179). -/

namespace Sys2Proof.Machine

/-! ### PEER_INFO -/

/-- The results of PEER_INFO for an entry; the SELF entry mirrors this station's own values (R61, R74). -/
def peerInfoBody (s : State) (p : StationNo) : List Byte :=
  let e := s.peer p
  if e.state = .self then
    [byteOf e.state.code, byteOf s.station.conf.presenceInterval, byteOf s.openCount, byteOf s.freeSlots,
      byteOf e.joinCount] ++ wordBytes 0
  else
    [byteOf e.state.code, byteOf (e.announced.getD 0), byteOf e.openWindows, byteOf e.freeContexts,
      byteOf e.joinCount] ++ wordBytes (timeLeft e.expiry)

/-- PEER_INFO (R74). -/
def peerInfoEffect (s : State) : Reply × State :=
  if h : (s.cmd 2).toNat < 32 then (.ok (peerInfoBody s ⟨(s.cmd 2).toNat, h⟩), s) else (.refused .badArg 2, s)

/-! ### Windows -/

/-- The window a parameter byte names. -/
def windowNo (b : Byte) : Option (Fin 8) := if h : b.toNat < 8 then some ⟨b.toNat, h⟩ else none

/-- Whether a range of buffer memory shares a byte with an OPEN window (R77, check 6). -/
def meetsOpen (base size : Nat) (w : Window) : Bool :=
  w.isOpen && decide (base < w.base + w.size ∧ w.base < base + size)

/-- The lowest id among the OPEN windows a range meets. -/
def firstOverlap (s : State) (base size : Nat) : Option (Fin 8) :=
  allWindows.find? fun w => meetsOpen base size (s.window w)

/-- The access kind of an access code. -/
def accessOf (b : Byte) : Access := if b = 1#8 then .readOnly else if b = 2#8 then .readWrite else .none

/-- The entry OPEN_WINDOW writes (R78). -/
def openedWindow (sizeCode access : Byte) (base : Word) (mask : BitVec 32) (valid : Word) : Window :=
  { isOpen := true, base := base.toNat, sizeCode := sizeCode.toNat, access := accessOf access, mask := mask,
    valid := valid.toNat }

/-- OPEN_WINDOW's checks 2 to 6 for an id and an entry to be, in their order (R77). -/
def openRefusal (s : State) (id : Fin 8) (w : Window) : Option Reply :=
  if (s.window id).isOpen then some (.refused .inUse 0)
  else if w.base % w.size ≠ 0 then some (.refused .badArg 6)
  else if 65536 < w.base + w.size then some (.refused .range 0)
  else if w.size < w.valid then some (.refused .range 0)
  else (firstOverlap s w.base w.size).map fun k => .refused .overlap k.val

/-- OPEN_WINDOW (R77, R78). -/
def openWindowEffect (s : State) : Reply × State :=
  match windowNo (s.cmd 2) with
  | none => (.refused .badArg 2, s)
  | some id =>
    if 7 < (s.cmd 3).toNat then (.refused .badArg 3, s)
    else if s.cmd 4 ≠ 1#8 ∧ s.cmd 4 ≠ 2#8 then (.refused .badArg 4, s)
    else
      let w := openedWindow (s.cmd 3) (s.cmd 4) (s.cmdWord 6 7) s.cmdMask (s.cmdWord 12 13)
      match openRefusal s id w with
      | some r => (r, s)
      | none => (.ok [byteOf (s.setWindow id w).openCount], s.setWindow id w)

/-- A window closed, its fields kept, and its contexts ended after it (R80). -/
def closeWindow (id : Fin 8) (s : State) : State :=
  contextsWindowClosed id (s.setWindow id { s.window id with isOpen := false })

/-- CLOSE_WINDOW (R80). -/
def closeWindowEffect (s : State) : Reply × State :=
  match windowNo (s.cmd 2) with
  | none => (.refused .badArg 2, s)
  | some id =>
    if (s.window id).isOpen then (.ok [byteOf (activeOn s id)], closeWindow id s) else (.refused .notOpen 0, s)

/-- SET_VALID (R83). -/
def setValidEffect (s : State) : Reply × State :=
  match windowNo (s.cmd 2) with
  | none => (.refused .badArg 2, s)
  | some id =>
    if (s.window id).isOpen = false then (.refused .notOpen 0, s)
    else if (s.window id).size < (s.cmdWord 4 5).toNat then (.refused .range 0, s)
    else (.ok [], s.setWindow id { s.window id with valid := (s.cmdWord 4 5).toNat })

/-- The results of WINDOW_INFO (R90). -/
def windowInfoBody (s : State) (id : Fin 8) : List Byte :=
  let w := s.window id
  [byteOf w.isOpen.toNat, byteOf w.sizeCode, byteOf w.access.code, byteOf (activeOn s id)] ++ wordBytes w.base ++
    wordBytes w.valid ++ bytes32 w.mask

/-- WINDOW_INFO (R90). -/
def windowInfoEffect (s : State) : Reply × State :=
  match windowNo (s.cmd 2) with
  | none => (.refused .badArg 2, s)
  | some id => (.ok (windowInfoBody s id), s)

/-! ### TAKE_ARRIVAL -/

/-- An arrival record as RESULT bytes 4–12. -/
def Arrival.body (r : Arrival) : List Byte :=
  [(r.windowId.map fun w => byteOf w.val).getD 0xFF#8, byteOf r.initiator.val, byteOf r.xch.val, byteOf r.op.code] ++
    wordBytes r.offset ++ wordBytes r.count ++ [byteOf r.result.code]

/-- The queue after a take that leaves the records given: OVERFLOW clears when none is left (R179). -/
def ArrivalQueue.left (q : ArrivalQueue) (rest : List Arrival) : ArrivalQueue :=
  { records := rest, overflow := q.overflow && !rest.isEmpty }

/-- TAKE_ARRIVAL (R179). -/
def takeArrivalEffect (s : State) : Reply × State :=
  match s.arrivals.records with
  | [] => (.refused .empty 0, s)
  | r :: rest =>
    (.ok (r.body ++ [byteOf rest.length, byteOf (s.arrivals.left rest).overflow.toNat]),
      s.setArrivals (s.arrivals.left rest))

end Sys2Proof.Machine
end

