-- ==== Sys2Proof/Machine/Mailbox.lean ====
section
/-! DEFINITION. The mailbox's end: the command a code names, the rise of CS_N that takes the due command, a host command's
row as its whole transaction, BAD_COMMAND (10_host_port.md R190, R192). -/

namespace Sys2Proof.Machine

/-- The effect of the command whose code stands in COMMAND byte 0; any other code is BAD_COMMAND (R192). -/
def commandEffect (s : State) : Reply × State :=
  match (s.cmd 0).toNat with
  | 0x01 => joinEffect s
  | 0x02 => withdrawEffect s
  | 0x03 => restartEffect s
  | 0x04 => stationInfoEffect s
  | 0x08 => peerInfoEffect s
  | 0x10 => openWindowEffect s
  | 0x11 => closeWindowEffect s
  | 0x12 => setValidEffect s
  | 0x13 => windowInfoEffect s
  | 0x20 => startEffect s
  | 0x21 => armEffect s
  | 0x22 => triggerEffect s
  | 0x23 => holdEffect s
  | 0x24 => resumeEffect s
  | 0x25 => cancelEffect s
  | 0x26 => setDeadlineEffect s
  | 0x27 => clearDeadlineEffect s
  | 0x28 => channelInfoEffect s
  | 0x29 => releaseEffect s
  | 0x30 => contextInfoEffect s
  | 0x31 => dropContextEffect s
  | 0x38 => takeArrivalEffect s
  | _ => (.refused .badCommand 0, s)

/-- The rise of CS_N: the transaction ends, and outside LOADING a due command is taken from the COMMAND area as it
stands (R44, R183, R190). -/
def riseCsN (s : State) : State :=
  let s₁ := endTransaction s
  if s₁.port.due = true ∧ s₁.station.mode ≠ .loading then takeCommand commandEffect s₁ else s₁

/-- A host command's row (log 8): the transaction in progress ends as CS_N rises, the bytes named are written to the
COMMAND area, and a GO transaction follows, which takes the command where GO is taken. With RESET_N low the port does
not answer (R43, R44, R189, R190). -/
def hostCommand (code tag : Byte) (params : List (Fin 16 × Byte)) (effect : State → Reply × State) (s : State) : State :=
  if s.pins.resetHeld then s
  else
    let s₁ := commandWritten code tag params (riseCsN s)
    if goTaken s₁ then takeCommand effect s₁ else s₁

/-- BAD_COMMAND (R192): a command code that the table does not hold. -/
def execBadCommand (tag code : Byte) (s : State) : Host.Outcome State Fault Refusal :=
  .next (hostCommand code tag [] commandEffect s)

/-- CS_N_RISE (R183, R190). With RESET_N low the port does not answer (R43). -/
def execCsNRise (s : State) : Host.Outcome State Fault Refusal :=
  .next (if s.pins.resetHeld then s else riseCsN s)

end Sys2Proof.Machine
end

