-- ==== Sys2Proof/Machine/HostCommands.lean ====
section
/-! DEFINITION. The meanings of the host commands, each as the SPI transactions its row stands for (R189, R190; log 8). -/

namespace Sys2Proof.Machine

/-- JOIN (R50). -/
def execJoin (tag : Byte) (s : State) : Host.Outcome State Fault Refusal :=
  .next (hostCommand 0x01#8 tag [] joinEffect s)

/-- WITHDRAW (R53). -/
def execWithdraw (tag : Byte) (s : State) : Host.Outcome State Fault Refusal :=
  .next (hostCommand 0x02#8 tag [] withdrawEffect s)

/-- RESTART (R58). -/
def execRestart (tag : Byte) (s : State) : Host.Outcome State Fault Refusal :=
  .next (hostCommand 0x03#8 tag [] restartEffect s)

/-- STATION_INFO (R59). -/
def execStationInfo (tag : Byte) (s : State) : Host.Outcome State Fault Refusal :=
  .next (hostCommand 0x04#8 tag [] stationInfoEffect s)

/-- PEER_INFO (R74). -/
def execPeerInfo (tag station : Byte) (s : State) : Host.Outcome State Fault Refusal :=
  .next (hostCommand 0x08#8 tag [(2, station)] peerInfoEffect s)

/-- OPEN_WINDOW (R77). -/
def execOpenWindow (tag id sizeCode access : Byte) (base : Word) (mask : BitVec 32) (valid : Word) (s : State) :
    Host.Outcome State Fault Refusal :=
  .next (hostCommand 0x10#8 tag (openWindowBytes id sizeCode access base mask valid) openWindowEffect s)

/-- CLOSE_WINDOW (R80). -/
def execCloseWindow (tag id : Byte) (s : State) : Host.Outcome State Fault Refusal :=
  .next (hostCommand 0x11#8 tag [(2, id)] closeWindowEffect s)

/-- SET_VALID (R83). -/
def execSetValid (tag id : Byte) (length : Word) (s : State) : Host.Outcome State Fault Refusal :=
  .next (hostCommand 0x12#8 tag ([(2, id)] ++ wordAt 4 5 length) setValidEffect s)

/-- WINDOW_INFO (R90). -/
def execWindowInfo (tag id : Byte) (s : State) : Host.Outcome State Fault Refusal :=
  .next (hostCommand 0x13#8 tag [(2, id)] windowInfoEffect s)

/-- TAKE_ARRIVAL (R179). -/
def execTakeArrival (tag : Byte) (s : State) : Host.Outcome State Fault Refusal :=
  .next (hostCommand 0x38#8 tag [] takeArrivalEffect s)

/-- START (R96). -/
def execStart (tag ch : Byte) (d : DescriptorArg) (s : State) : Host.Outcome State Fault Refusal :=
  .next (hostCommand 0x20#8 tag ([(2, ch)] ++ descriptorBytes d) startEffect s)

/-- ARM (R98). -/
def execArm (tag ch : Byte) (d : DescriptorArg) (s : State) : Host.Outcome State Fault Refusal :=
  .next (hostCommand 0x21#8 tag ([(2, ch)] ++ descriptorBytes d) armEffect s)

/-- TRIGGER (R99). -/
def execTrigger (tag ch : Byte) (s : State) : Host.Outcome State Fault Refusal :=
  .next (hostCommand 0x22#8 tag [(2, ch)] triggerEffect s)

/-- HOLD (R124). -/
def execHold (tag ch : Byte) (s : State) : Host.Outcome State Fault Refusal :=
  .next (hostCommand 0x23#8 tag [(2, ch)] holdEffect s)

/-- RESUME (R128). -/
def execResume (tag ch : Byte) (s : State) : Host.Outcome State Fault Refusal :=
  .next (hostCommand 0x24#8 tag [(2, ch)] resumeEffect s)

/-- CANCEL (R130). -/
def execCancel (tag ch : Byte) (s : State) : Host.Outcome State Fault Refusal :=
  .next (hostCommand 0x25#8 tag [(2, ch)] cancelEffect s)

/-- SET_DEADLINE (R136). -/
def execSetDeadline (tag ch : Byte) (ms : Word) (s : State) : Host.Outcome State Fault Refusal :=
  .next (hostCommand 0x26#8 tag ([(2, ch)] ++ wordAt 3 4 ms) setDeadlineEffect s)

/-- CLEAR_DEADLINE (R137). -/
def execClearDeadline (tag ch : Byte) (s : State) : Host.Outcome State Fault Refusal :=
  .next (hostCommand 0x27#8 tag [(2, ch)] clearDeadlineEffect s)

/-- CHANNEL_INFO (R102). -/
def execChannelInfo (tag ch part : Byte) (s : State) : Host.Outcome State Fault Refusal :=
  .next (hostCommand 0x28#8 tag [(2, ch), (3, part)] channelInfoEffect s)

/-- RELEASE (R101). -/
def execRelease (tag ch : Byte) (s : State) : Host.Outcome State Fault Refusal :=
  .next (hostCommand 0x29#8 tag [(2, ch)] releaseEffect s)

/-- CONTEXT_INFO (R169). -/
def execContextInfo (tag slot part : Byte) (s : State) : Host.Outcome State Fault Refusal :=
  .next (hostCommand 0x30#8 tag [(2, slot), (3, part)] contextInfoEffect s)

/-- DROP_CONTEXT (R168). -/
def execDropContext (tag slot : Byte) (s : State) : Host.Outcome State Fault Refusal :=
  .next (hostCommand 0x31#8 tag [(2, slot)] dropContextEffect s)

end Sys2Proof.Machine
end

