-- ==== Sys2Proof/Machine/HostPort.lean ====
section
/-! DEFINITION. The host port byte by byte: the instruction and address bytes, register writes, memory bytes, the register
window as it reads, and the claims the arbiter serves (10_host_port.md R182 to R190; 09_buffer_memory_and_arrivals.md
R171 to R173). -/

namespace Sys2Proof.Machine

/-! ### The opening of a transaction (R182) -/

/-- CS_N falls: the port awaits the instruction byte and drives SO with 0. -/
def fallCsN (s : State) : State :=
  s.setPort { s.port with spi := some { kind := .opening [], address := 0 }, so := some 0 }

/-- The transaction after the instruction and address bytes received so far: an instruction byte not in the table ends
it with no effect; the second address byte completes the address, most significant byte first. -/
def openedBy : List Byte → Spi
  | [code] =>
    if (spiKind code.toNat).isSome then { kind := .opening [code], address := 0 } else { kind := .ignored, address := 0 }
  | [code, high, low] => { kind := (spiKind code.toNat).getD .ignored, address := (word high low).toNat }
  | received => { kind := .opening received, address := 0 }

/-- An instruction or address byte is received; SO stays driven with 0. -/
def openingByte (b : Byte) (s : State) : State :=
  match s.port.spi with
  | some { kind := .opening received, .. } => s.setPort { s.port with spi := some (openedBy (received ++ [b])) }
  | _ => s

/-- CS_N falls, and the instruction byte and the two address bytes are received. -/
def openTransaction (code : Byte) (address : Word) (s : State) : State :=
  openingByte (lo address) (openingByte (hi address) (openingByte code (fallCsN s)))

/-- The state in which a data byte of a transaction with the instruction byte given is received, none where no such byte
can come. `first` is the address of a transaction that the byte opens, none for a further byte of the one in progress.
Where another transaction is in progress CS_N has risen before the byte opens its own; a transaction with a bad
instruction byte ignores every byte until that rise (R182; log 16). -/
def atDataByte (code : Byte) (first : Option Word) (s : State) : Option State :=
  if s.pins.resetHeld then none
  else
    match s.port.spi, first with
    | none, none => none
    | none, some a => some (openTransaction code a s)
    | some t, none => if some t.kind = spiKind code.toNat then some s else none
    | some t, some a => if t.kind = .ignored then none else some (openTransaction code a (riseCsN s))

/-- The current address of the transaction in progress (R183, R184). -/
def State.spiAddress (s : State) : Nat := (s.port.spi.map Spi.address).getD 0

/-- The transaction in progress after a data byte, its address moved on. -/
def State.nextAddress (s : State) (address : Nat) : Option Spi := s.port.spi.map fun t => { t with address := address }

/-! ### Register writes -/

/-- NOTICE written: only its low byte holds notices (R186). -/
def writeNotice (low : Bool) (v : Byte) (s : State) : State :=
  if low then s.setNotices (s.port.notices.clearedBy v) else s

/-- NOTICE_MASK written: only its low byte holds mask bits (R187). -/
def writeMask (low : Bool) (v : Byte) (s : State) : State := if low then s.setPort { s.port with mask := v } else s

/-- CHANNEL_ENDED written (R188). -/
def writeEnded (v : Byte) (s : State) : State := s.setPort { s.port with ended := s.port.ended &&& ~~~ v }

/-- CHANNEL_PROGRESS written (R188). -/
def writeProgress (v : Byte) (s : State) : State := s.setPort { s.port with progress := s.port.progress &&& ~~~ v }

/-- GO written: outside LOADING and with BUSY clear a command is marked due (R190). -/
def writeGo (s : State) : State := if goTaken s then s.setPort { s.port with busy := true, due := true } else s

/-- A byte of the COMMAND area written (R189). -/
def writeCommand (i : Fin 16) (v : Byte) (s : State) : State :=
  s.setPort { s.port with command := s.port.command.set i.val v }

/-- What a byte written at a register address does; RO and unmapped bytes and addresses past 0x3F ignore it (R184). -/
def writeRegister (address : Nat) (v : Byte) (s : State) : State :=
  if h : 0x10 ≤ address ∧ address ≤ 0x1F then writeCommand ⟨address - 0x10, by omega⟩ v s
  else
    match address with
    | 0x09 => writeNotice true v s
    | 0x0B => writeMask true v s
    | 0x0C => writeEnded v s
    | 0x0D => writeProgress v s
    | 0x0F => writeGo s
    | _ => s

/-- The address of the transaction that a register byte at an address opens: none where the register write in progress has
reached that address (R184). -/
def registerFirst (address : Word) (s : State) : Option Word :=
  if s.port.spi = some { kind := .registerWrite, address := address.toNat } then none else some address

/-- A byte of a register write is received at an address and takes effect; the address rises by one, and SO is driven
with 0 (R182, R184). -/
def registerByte (address : Word) (effect : State → State) (s : State) : State :=
  ((atDataByte 0x41#8 (registerFirst address s) s).map fun u =>
    effect (u.setPort { u.port with spi := u.nextAddress (u.spiAddress + 1), so := some 0 })).getD s

/-- NOTICE_WRITE (R186). -/
def execNoticeWrite (low : Bool) (value : Byte) (s : State) : Host.Outcome State Fault Refusal :=
  .next (registerByte (if low then 0x09#16 else 0x08#16) (writeNotice low value) s)

/-- NOTICE_MASK_WRITE (R187). -/
def execNoticeMaskWrite (low : Bool) (value : Byte) (s : State) : Host.Outcome State Fault Refusal :=
  .next (registerByte (if low then 0x0B#16 else 0x0A#16) (writeMask low value) s)

/-- CHANNEL_ENDED_WRITE (R188). -/
def execChannelEndedWrite (value : Byte) (s : State) : Host.Outcome State Fault Refusal :=
  .next (registerByte 0x0C#16 (writeEnded value) s)

/-- CHANNEL_PROGRESS_WRITE (R188). -/
def execChannelProgressWrite (value : Byte) (s : State) : Host.Outcome State Fault Refusal :=
  .next (registerByte 0x0D#16 (writeProgress value) s)

/-- REGISTER_WRITE (R184). -/
def execRegisterWrite (address : Word) (value : Byte) (s : State) : Host.Outcome State Fault Refusal :=
  .next (registerByte address (writeRegister address.toNat value) s)

/-- GO_WRITE (R190): the value is not read. -/
def execGoWrite (_value : Byte) (s : State) : Host.Outcome State Fault Refusal :=
  .next (registerByte 0x0F#16 writeGo s)

/-- The first byte of a transaction is received: its instruction byte. Where another transaction is in progress CS_N has
risen before; one with a bad instruction byte ignores every byte until that rise (R182; log 16). -/
def instructionByte (code : Byte) (s : State) : State :=
  if s.pins.resetHeld then s
  else
    match s.port.spi with
    | none => openingByte code (fallCsN s)
    | some t => if t.kind = .ignored then s else openingByte code (fallCsN (riseCsN s))

/-- BAD_INSTRUCTION (R182): every following byte is ignored until CS_N rises, and SO is driven with 0. -/
def execBadInstruction (code : Byte) (s : State) : Host.Outcome State Fault Refusal := .next (instructionByte code s)

/-! ### Memory transactions (R183) -/

/-- The transaction's address after a data byte at the address given, which wraps after 65,535 (R183). -/
def State.nextMemoryAddress (s : State) : Option Spi := s.nextAddress ((s.spiAddress + 1) % 65536)

/-- A whole data byte of a memory write: a one-byte claim at the current address, or nothing in LOADING (R44, R183). -/
def writeMemoryByte (v : Byte) (s : State) : State :=
  s.setPort { s.port with
    spi := s.nextMemoryAddress, so := some 0,
    claims := if s.station.mode = .loading then s.port.claims else s.port.claims ++ [.write s.spiAddress v] }

/-- The next byte of a memory read: a one-byte claim at the current address; in LOADING the byte reads 0 and makes no
claim (R44, R183). SO keeps what it drives until the claim is served: 0 before the first byte, else the byte before. -/
def readMemoryByte (s : State) : State :=
  if s.station.mode = .loading then s.setPort { s.port with spi := s.nextMemoryAddress, so := some 0 }
  else s.setPort { s.port with spi := s.nextMemoryAddress, claims := s.port.claims ++ [.read s.spiAddress] }

/-- MEMORY_WRITE_BYTE (R183). -/
def execMemoryWriteByte (first : Option Word) (value : Byte) (s : State) : Host.Outcome State Fault Refusal :=
  .next (((atDataByte 0x51#8 first s).map (writeMemoryByte value)).getD s)

/-- MEMORY_READ_BYTE (R183). -/
def execMemoryReadByte (first : Option Word) (s : State) : Host.Outcome State Fault Refusal :=
  .next (((atDataByte 0x52#8 first s).map readMemoryByte).getD s)

/-! ### Claims served -/

/-- HOST_CLAIM_SERVED (R173, R183). -/
def execHostClaimServed (s : State) : Host.Outcome State Fault Refusal := .next (serveInTurn .host s)

/-- CHANNEL_READ_CLAIM_SERVED (R108, R173). -/
def execChannelReadClaimServed (s : State) : Host.Outcome State Fault Refusal := .next (serveInTurn .channels s)

/-- CONTEXT_READ_CLAIM_SERVED (R153, R173). -/
def execContextReadClaimServed (s : State) : Host.Outcome State Fault Refusal := .next (serveInTurn .responders s)

/-! ### The register window as the host reads it (R184, R185; no row of the table is a register read, log 16) -/

/-- Byte j of PRESENT_MAP, 0 for the byte at 0x30 (R73, R185). -/
def presentByte (s : State) (j : Nat) : Byte :=
  ((List.range 8).filter fun i => s.present (Fin.ofNat 32 (8 * (3 - j) + i))).foldl (fun b i => b ||| BitVec.twoPow 8 i) 0

/-- CONFIG_SOURCE: 0 until LOADING ends (R185). -/
def configSourceByte (s : State) : Byte := byteOf s.station.confSource.code

/-- The byte at a register address as it stands (R184, R185). -/
def readRegister (s : State) (address : Nat) : Byte :=
  if 0x10 ≤ address ∧ address ≤ 0x1F then s.port.command.toList.getD (address - 0x10) 0
  else if 0x20 ≤ address ∧ address ≤ 0x2F then s.port.result.toList.getD (address - 0x20) 0
  else if 0x30 ≤ address ∧ address ≤ 0x33 then presentByte s (address - 0x30)
  else
    match address with
    | 0x00 => hi Config.partId
    | 0x01 => lo Config.partId
    | 0x02 => Config.revision
    | 0x03 => byteOf s.station.mode.code
    | 0x04 => byteOf s.station.number.val
    | 0x05 => byteOf s.station.rate.val
    | 0x06 => configSourceByte s
    | 0x07 => byteOf s.port.busy.toNat
    | 0x09 => s.noticeByte
    | 0x0B => s.port.mask
    | 0x0C => s.port.ended
    | 0x0D => s.port.progress
    | 0x0E => byteOf s.arrivals.records.length
    | _ => 0

/-- The length of the multi-byte register that begins at an address, 1 for the rest (10_host_port.md 10.2). -/
def registerLength (address : Nat) : Nat :=
  if address = 0x00 ∨ address = 0x08 ∨ address = 0x0A then 2 else if address = 0x30 then 4 else 1

/-- The byte a latch holds for an address, if it holds one. -/
def Latch.byteAt (l : Latch) (address : Nat) : Option Byte :=
  if l.base ≤ address then l.bytes[address - l.base]? else none

/-- The byte at the address of a register read shifts out of SO: from the latch where it holds the address, else as it
stands, latching a multi-byte register at its lowest offset; the address rises by one (R184). -/
def shiftRegister (s : State) : State :=
  let a := s.spiAddress
  let fresh : Latch := { base := a, bytes := (List.range (registerLength a)).map fun i => readRegister s (a + i) }
  let latch : Option Latch := if registerLength a = 1 then s.port.latch else some fresh
  s.setPort { s.port with
    spi := s.nextAddress (a + 1),
    so := some (((latch.bind fun l => l.byteAt a)).getD (readRegister s a)), latch := latch }

/-- The next byte of a register read. `first` as for the memory bytes. -/
def readRegisterByte (first : Option Word) (s : State) : State :=
  ((atDataByte 0x42#8 first s).map shiftRegister).getD s

end Sys2Proof.Machine
end

