-- ==== Sys2Proof/Machine/Loading.lean ====
section
/-! DEFINITION. Reset and LOADING: RESET_N, the memory clearing, and the configuration read with its validation
(03_station_life.md R43 to R47; 09_buffer_memory_and_arrivals.md R170). -/

namespace Sys2Proof.Machine

/-! ### The configuration image (R46) -/

/-- A value in its range, or the default with the load marked PARTIAL. -/
def itemValue (low high fallback value : Nat) : Nat × Bool :=
  if low ≤ value ∧ value ≤ high then (value, false) else (fallback, true)

/-- One (item, value) pair applied; the PARTIAL mark stays once made. -/
def applyPair (acc : ConfigValues × Bool) (item value : Byte) : ConfigValues × Bool :=
  let v := value.toNat
  match item.toNat with
  | 1 =>
    let r := itemValue 1 15 Config.defaultRetryLimit v
    ({ acc.1 with retryLimit := r.1 }, acc.2 || r.2)
  | 2 =>
    let r := itemValue 1 255 Config.defaultPresenceInterval v
    ({ acc.1 with presenceInterval := r.1 }, acc.2 || r.2)
  | 3 =>
    let r := itemValue 1 255 Config.defaultIdleLimit v
    ({ acc.1 with idleLimit := r.1 }, acc.2 || r.2)
  | 4 =>
    let r := itemValue 0 1 0 v
    ({ acc.1 with autoJoin := r.1 == 1 }, acc.2 || r.2)
  | _ => acc

/-- The pairs of an image applied in order. -/
def applyPairs (acc : ConfigValues × Bool) : List Byte → ConfigValues × Bool
  | item :: value :: rest => applyPairs (applyPair acc item value) rest
  | _ => acc

/-- Whether an image is valid: signature, count, all of its bytes, and a sum of 0 modulo 256 (R46; log 15). -/
def imageGood (bytes : List Byte) : Bool :=
  (bytes.getD 0 0 == 0x45#8) && (bytes.getD 1 0 == 0x53#8) && decide ((bytes.getD 2 0).toNat ≤ 16) &&
    (bytes.length == 4 + 2 * (bytes.getD 2 0).toNat) && ((bytes.foldl (· + ·) 0) == 0#8)

/-- The pairs of an image: what stands between the count and the check byte. -/
def imagePairs (bytes : List Byte) : List Byte := (bytes.drop 3).take (2 * (bytes.getD 2 0).toNat)

/-- The values and the source code an image gives (R46). -/
def validateImage (bytes : List Byte) : ConfigValues × ConfigSource :=
  if imageGood bytes then
    let r := applyPairs (ConfigValues.default, false) (imagePairs bytes)
    (r.1, if r.2 then .partially else .image)
  else (ConfigValues.default, .badImage)

/-- What a configuration read gives, faults included (R45, R46). -/
def readOutcome : ConfigRead → ConfigValues × ConfigSource
  | .noDevice => (ConfigValues.default, .noDevice)
  | .noAcknowledge => (ConfigValues.default, .badImage)
  | .dataHeldLow => (ConfigValues.default, .badImage)
  | .image bytes => validateImage bytes

/-! ### The tasks of LOADING -/

/-- Whether a task of LOADING can finish now: in LOADING, with RESET_N high. -/
def State.isLoading (s : State) : Bool := s.station.mode == .loading && !s.pins.resetHeld

/-- The configuration read ends with an outcome (R45, R46, R47). -/
def endRead (r : ConfigValues × ConfigSource) (s : State) : State :=
  if s.isLoading ∧ s.station.readDone = none then
    endLoading (s.setStation { s.station with readDone := some r })
  else s

/-- The memory clearing ends: every byte reads 0 (R47, R170). -/
def endClearing (s : State) : State :=
  if s.isLoading ∧ s.station.clearDone = false then
    endLoading ((s.setStation { s.station with clearDone := true }).setCells [])
  else s

/-! ### The meanings -/

/-- RESET_ASSERT (R43): the part is held; every transaction and claim is abandoned (log 24). -/
def execResetAssert (s : State) : Host.Outcome State Fault Refusal :=
  .next (fullReset s.station.number s.station.rate true s)

/-- RESET_RELEASE (R43): the straps are sampled and LOADING begins (log 24). -/
def execResetRelease (sn : StationNo) (rate : Fin 4) (s : State) : Host.Outcome State Fault Refusal :=
  .next (fullReset sn rate false s)

/-- MEMORY_CLEAR_DONE (R170). -/
def execMemoryClearDone (s : State) : Host.Outcome State Fault Refusal := .next (endClearing s)

/-- CONFIG_READ_DONE (R46). -/
def execConfigReadDone (r : ConfigRead) (s : State) : Host.Outcome State Fault Refusal :=
  .next (endRead (readOutcome r) s)

/-- CFG_CLOCK_TIMEOUT (R45). -/
def execCfgClockTimeout (s : State) : Host.Outcome State Fault Refusal :=
  .next (endRead (ConfigValues.default, .badImage) s)

end Sys2Proof.Machine
end

