-- ==== Sys2Proof/Machine/Line.lean ====
section
/-! DEFINITION. The Line Access Unit's events: activity, gaps, slots and the transmit scheduler, own transmissions,
collisions and jams, the outcomes of asks, and the limits of attempts and clashes (01_the_station_line.md). -/

namespace Sys2Proof.Machine

/-! ### The ask in flight -/

/-- The ask in flight ends with an outcome, which goes to its source (R16). The station source keeps a collided
frame ready and takes no answer. -/
def resolveAsk (o : AskOutcome) (s : State) : State :=
  match s.lau.ask with
  | none => s
  | some a =>
    match a.source with
    | .station => s.setAsk none
    | .channel c => channelOutcome c o (s.setAsk none)
    | .context k => contextOutcome k o (s.setAsk none)

/-! ### Activity -/

/-- Whether activity whose start the LAU did not see is in progress (R5). -/
def State.unseenActivity (s : State) : Bool := s.lau.phase == .quiet && s.pins.lineActive

/-- Activity of another station begins (R7, R35). With the receiver off, or while this station sends, only the line
knows of it. -/
def beginActivity (s : State) : State :=
  match s.lau.phase with
  | .quiet =>
    if s.pins.lineActive then s else ((s.setPhase .receiving).setLineActive true).setRx []
  | .contention _ _ => ((s.setPhase .receiving).setLineActive true).setRx []
  | .replyGap => ((s.setPhase .receiving).setLineActive true).setRx []
  | .receiving => s
  | .silent => s.setLineActive true
  | .transmitting _ => s.setLineActive true

/-- Activity whose start was not seen ends: a settle gap starts, and nothing else happens (R5). -/
def endUnseen (s : State) : State :=
  match s.lau.phase with
  | .receiving => s
  | .contention _ _ => s
  | .replyGap => s
  | _ => s.setLineActive false

/-- Activity ends that is corrupted or malformed, or a jam: an ask in flight ends NO_ANSWER, L is 31 with the
recovery flag set, a settle gap starts (R7, R13, R17, R36). -/
def endCorrupted (buffered : List Byte) (s : State) : State :=
  if !s.lau.phase.hears || s.unseenActivity then s.setLineActive false
  else
    let s₁ := resolveAsk .noAnswer ((s.setLineActive false).setRx buffered)
    checkListening (((s₁.setL 31 true).setPhase .quiet).setAnswer none)

/-! ### Frames this station sends (R26, R29 to R31) -/

/-- The frame the station source offers in the state given; its payload is built as the frame begins (R29). -/
def stationFrame (s : State) : Frame :=
  let payload := [byteOf s.station.conf.presenceInterval, byteOf s.openCount, byteOf s.freeSlots, 0#8]
  let plain (k : FrameKind) (p : List Byte) : Frame :=
    { kind := k, dir := false, tgl := false, src := s.station.number, dst := 0, xch := 0, payload := p }
  match s.station.mode with
  | .joining => plain .join payload
  | .withdrawing => plain .leave []
  | _ => plain .presence payload

/-- The frame a channel offers by its state (R26, R94). -/
def channelFrame (c : ChannelNo) (s : State) : Frame :=
  let ch := s.channel c
  let plain (k : FrameKind) (t : Bool) (p : List Byte) : Frame :=
    { kind := k, dir := false, tgl := t, src := s.station.number, dst := ch.desc.peer, xch := c, payload := p }
  match ch.state with
  | .request => plain .request false ch.desc.requestBody.payload
  | .data => plain .data ch.heldFrame.tgl ch.heldFrame.payload
  | .close => plain .close false []
  | _ => plain .abort false []

/-- The DATA a context offers (R26, R140). -/
def contextFrame (k : SlotNo) (s : State) : Frame :=
  let x := s.context k
  { kind := .data, dir := true, tgl := x.heldFrame.tgl, src := s.station.number, dst := x.initiator, xch := x.xch,
    payload := x.heldFrame.payload }

/-- The frame a source offers. -/
def sourceFrame (src : Source) (s : State) : Frame :=
  match src with
  | .station => stationFrame s
  | .channel c => channelFrame c s
  | .context k => contextFrame k s

/-! ### The transmit scheduler (R21, R22) -/

/-- Whether a channel or context holds an asking frame ready and is not pausing (R21, R94, R140). -/
def sourceReady (s : State) : Source → Bool
  | .station => false
  | .channel c =>
    match (s.channel c).state with
    | .request => (s.channel c).pauseTimer == none
    | .data => (s.channel c).desc.op == .put && (s.channel c).built
    | .close => true
    | .aborting => true
    | _ => false
  | .context k => (s.context k).state == .sending && (s.context k).built && (s.context k).pauseTimer == none

/-- The twelve sources by their place in the round-robin order (R21). -/
def sourceAt (i : Fin 12) : Source :=
  if h : i.val < 8 then .channel ⟨i.val, h⟩ else .context ⟨i.val - 8, by omega⟩

/-- The places after the pointer's, its own last (R21). -/
def placesAfter (p : Fin 12) : List (Fin 12) :=
  [p + 1, p + 2, p + 3, p + 4, p + 5, p + 6, p + 7, p + 8, p + 9, p + 10, p + 11, p]

/-- The place of the channel or context served next, if one is ready (R21). -/
def nextPlace (s : State) : Option (Fin 12) :=
  (placesAfter s.lau.pointer).find? fun i => sourceReady s (sourceAt i)

/-- What the scheduler picked: a frame of the station source, or of the source at a place of the order. -/
inductive Pick where
  | station
  | place (i : Fin 12)
deriving DecidableEq, Repr

/-- The pick at the start of a slot this station owns (R6, R21). -/
def pick (s : State) : Option Pick :=
  match s.station.mode with
  | .joining => if s.station.joinReady then some .station else none
  | .withdrawing =>
    if s.station.leaveReady then some .station else (nextPlace s).map .place
  | .online =>
    match nextPlace s with
    | some i => some (.place i)
    | none => if s.station.presenceDue then some .station else none
  | _ => none

/-- The ask-in-flight flag of the source that asks (R103, R141). -/
def flagAsk (src : Source) (s : State) : State :=
  match src with
  | .station => s
  | .channel c => s.setChannel c { s.channel c with askInFlight := true }
  | .context k => s.setContext k { s.context k with askInFlight := true }

/-- Whether the round in progress is a recovery round (R13). -/
def Lau.recoveryRound (x : Lau) : Bool := x.last == some 31 && x.recovery

/-- An asking frame begins: the LAU records the ask and sends (R11, R16). The received-frame buffer keeps its bytes while
this station sends: the model's choice (log 31). -/
def beginAsk (src : Source) (s : State) : State :=
  let f := sourceFrame src s
  flagAsk src (s.setLau { s.lau with
    phase := .transmitting
      { frame := f, source := some src, recoveryRound := s.lau.recoveryRound, jam := false },
    ask := some { source := src, kind := f.kind, dst := f.dst, xch := f.xch } })

/-- The picked frame begins; the pointer moves to a picked channel or context (R21). -/
def beginPick (p : Pick) (s : State) : State :=
  match p with
  | .station => beginAsk .station s
  | .place i => beginAsk (sourceAt i) (s.setLau { s.lau with pointer := i })

/-- Whether this station owns slot k of the round (R11); there are no owners while L is UNKNOWN (R5). -/
def ownsSlot (s : State) (k : Nat) : Bool :=
  match s.lau.last with
  | none => false
  | some l => (l.val + k) % 32 == s.station.number.val

/-- Slot k begins (R11): in a slot of this station's own the picked frame begins, or the slot passes idle. -/
def beginSlot (k : Nat) (s : State) : State :=
  let s₁ := s.setPhase (.contention k true)
  if ownsSlot s₁ k then
    match pick s₁ with
    | none => s₁
    | some p => beginPick p s₁
  else s₁

/-- The next slot of the round in progress, 1–32, if one is still to begin. -/
def nextSlot (s : State) : Option Nat :=
  match s.lau.phase with
  | .contention k begun => if begun then (if k < 32 then some (k + 1) else none) else some k
  | _ => none

/-! ### Gaps, rounds -/

/-- The 8th bit-time of a reply gap: the answer begins if the line is idle, and is discarded otherwise (R9). The
received-frame buffer keeps its bytes while this station sends: the model's choice (log 31). -/
def answerInGap (s : State) : State :=
  match s.lau.phase, s.lau.answer with
  | .replyGap, some f =>
    if s.station.mode = .online ∨ s.station.mode = .withdrawing then
      s.setLau { s.lau with
        phase := .transmitting { frame := f, source := none, recoveryRound := false, jam := false }, answer := none }
    else s.setAnswer none
  | _, _ => s.setAnswer none

/-- The reply gap closes with nothing begun (R8, R16). -/
def closeGap (s : State) : State :=
  match s.lau.phase with
  | .replyGap => resolveAsk .noAnswer ((s.setPhase .quiet).setAnswer none)
  | _ => s

/-! ### Own transmissions -/

/-- A broadcast frame's last bit is sent without collision (R16, R52, R55, R61, R71, R72). -/
def broadcastSent (k : FrameKind) (s : State) : State :=
  match k with
  | .join =>
    let own := s.station.number
    let s₁ := s.setPeer own { s.peer own with joinCount := (s.peer own).joinCount + 1 }
    restartPresence (enterMode .online (s₁.setStation { s₁.station with joinReady := false }))
  | .leave => enterWithdrawn s
  | _ => restartPresence s

/-- The end of an own frame of the asking class: L, then SENT or the reply gap (R7, R13, R16, R71). -/
def askSent (f : Frame) (s : State) : State :=
  let s₁ := s.setL f.src false
  if f.kind.broadcast then broadcastSent f.kind ((s₁.setPhase .quiet).setAsk none)
  else restartPresence (s₁.setPhase .replyGap)

/-- An own frame has sent its last bit without collision (R9, R13, R16, R19, R54). -/
def endTransmission (s : State) : State :=
  match s.lau.phase with
  | .transmitting t =>
    if t.jam then s
    else
      let s₁ := (s.setLau { s.lau with clash := 0 }).setLineActive false
      applyWithdrawal
        (match t.source with
          | none => (s₁.setL t.frame.dst false).setPhase .quiet
          | some _ => askSent t.frame s₁)
  | _ => s

/-- Whether a collision of this transmission counts as a possible clash (R19). -/
def Transmission.counts (t : Transmission) : Bool := t.source == none || t.recoveryRound

/-- The clash count rises by one; at 3 the LAU reports a clash (R19; log 10). -/
def countClash (s : State) : State :=
  let s₁ := s.setLau { s.lau with clash := min (s.lau.clash + 1) 3 }
  if 3 ≤ s₁.lau.clash then reportClash s₁ else s₁

/-- A readback mismatch: the frame stops, the jam begins, the ask ends COLLIDED, the clash count follows (R14, R19). -/
def collide (s : State) : State :=
  match s.lau.phase with
  | .transmitting t =>
    if t.jam then s
    else
      let s₁ := resolveAsk .collided
        ((s.setPhase (.transmitting { t with jam := true })).setL 31 true)
      if t.counts then countClash s₁ else s₁
  | _ => s

/-- The own jam ends: the LAU watches the line; a pending withdrawal takes effect (R14, R54). What remains on the line is
taken as activity that goes on, so the received-frame buffer keeps its bytes until that activity ends: the model's
choice (log 29). -/
def endJam (active : Bool) (s : State) : State :=
  match s.lau.phase with
  | .transmitting t =>
    if t.jam then applyWithdrawal ((s.setPhase (if active then .receiving else .quiet)).setLineActive active)
    else s
  | _ => s

/-! ### The meanings -/

/-- ACTIVITY_START (R7). -/
def execActivityStart (s : State) : Host.Outcome State Fault Refusal := .next (beginActivity s)

/-- UNSEEN_ACTIVITY_END (R5). -/
def execUnseenActivityEnd (s : State) : Host.Outcome State Fault Refusal := .next (endUnseen s)

/-- REPLY_GAP_ANSWER (R9). -/
def execReplyGapAnswer (s : State) : Host.Outcome State Fault Refusal := .next (answerInGap s)

/-- REPLY_GAP_CLOSE (R8). -/
def execReplyGapClose (s : State) : Host.Outcome State Fault Refusal := .next (closeGap s)

/-- SETTLE_GAP_END (R10): the LAU enters CONTENTION(1). The gap is of idle line, so not while activity whose start
was not seen is in progress (R5). -/
def execSettleGapEnd (s : State) : Host.Outcome State Fault Refusal :=
  .next (if s.lau.phase = .quiet ∧ s.pins.lineActive = false then s.setPhase (.contention 1 false) else s)

/-- SLOT_START (R11): the next slot of the round begins (log 22). -/
def execSlotStart (s : State) : Host.Outcome State Fault Refusal :=
  .next (match nextSlot s with
    | some k => beginSlot k s
    | none => s)

/-- SILENT_ROUND (R12): slot 32 has passed with no activity. -/
def execSilentRound (s : State) : Host.Outcome State Fault Refusal :=
  .next (if s.lau.phase = .contention 32 true then
    checkListening ((s.setL 31 false).setPhase (.contention 1 false)) else s)

/-- TRANSMISSION_END (R16). -/
def execTransmissionEnd (s : State) : Host.Outcome State Fault Refusal := .next (endTransmission s)

/-- COLLISION (R14). -/
def execCollision (s : State) : Host.Outcome State Fault Refusal := .next (collide s)

/-- JAM_END (R14). -/
def execJamEnd (active : Bool) (s : State) : Host.Outcome State Fault Refusal := .next (endJam active s)

/-- Whether the next own collision brings the clash count to 3 (R19). -/
def lastCountedCollision (s : State) : Bool :=
  match s.lau.phase with
  | .transmitting t => !t.jam && t.counts && s.lau.clash == 2
  | _ => false

/-- CLASH_COUNT_LIMIT (R19): the collision that brings the count to 3, with its clash report; or the report of a
count that stands at 3 (log 10). -/
def execClashCountLimit (s : State) : Host.Outcome State Fault Refusal :=
  .next (if 3 ≤ s.lau.clash then reportClash s else if lastCountedCollision s then collide s else s)

/-- Whether the open reply gap is that of an ask of the source given. -/
def gapOf (src : Source) (s : State) : Bool :=
  s.lau.phase == .replyGap && (s.lau.ask.map Ask.source) == some src

/-- RETRY_EXHAUSTED (R103): the reply gap that closes on the channel's last attempt; or the end of a channel whose
count stands at the limit (log 11). -/
def execRetryExhausted (ch : ChannelNo) (s : State) : Host.Outcome State Fault Refusal :=
  .next (if gapOf (.channel ch) s ∧ s.attemptLimit ≤ (s.channel ch).attempts + 1 then closeGap s
    else if (s.channel ch).askInFlight = false ∧ s.attemptLimit ≤ (s.channel ch).attempts then endExhausted ch s
    else s)

/-- CONTEXT_RETRY_EXHAUSTED (R154), in the same two cases (log 11). -/
def execContextRetryExhausted (slot : SlotNo) (s : State) : Host.Outcome State Fault Refusal :=
  .next (if gapOf (.context slot) s ∧ s.attemptLimit ≤ (s.context slot).attempts + 1 then closeGap s
    else if (s.context slot).askInFlight = false ∧ (s.context slot).state = .sending ∧
        s.attemptLimit ≤ (s.context slot).attempts then endContext slot .retryExhausted s
    else s)

end Sys2Proof.Machine
end

