-- ==== Sys2Proof/Machine/Receive.lean ====
section
/-! DEFINITION. Frames that end on the line: the one arrival event of a valid frame with its clash report, L, refresh,
phase and owner, and the meanings of the received-frame rows (02_frames.md R35 to R40; 01_the_station_line.md R7, R13,
R17, R20). -/

namespace Sys2Proof.Machine

/-! ### Matching an answer -/

/-- Whether an answer frame matches an addressed ask of this station (R17). -/
def Ask.isMatch (a : Ask) (own : StationNo) (f : Frame) : Bool :=
  a.kind.addressedAsk && f.kind.answer && f.dst == own && f.src == a.dst && f.xch == a.xch

/-- Whether a frame matches the ask in flight (R17, R39). -/
def State.matchesAsk (s : State) (f : Frame) : Bool :=
  match s.lau.ask with
  | some a => a.isMatch s.station.number f
  | none => false

/-! ### Owners (R38) -/

/-- An owner's answer to a frame that names this station, handed to the LAU with the header of R26. In LISTENING and
JOINING, and for another DST, the frame has no owner (R38). -/
def deliver (f : Frame) (act : State → Answer × State) (s : State) : State :=
  if f.dst = s.station.number ∧ (s.station.mode = .online ∨ s.station.mode = .withdrawing) then
    (act s).2.setAnswer (some ((act s).1.frame (!f.dir) s.station.number f.src f.xch))
  else s

/-- The owner of a REQUEST (R38, R146). -/
def requestOwner (f : Frame) (q : RequestBody) (s : State) : State :=
  deliver f (takeRequest f.src f.xch q) (refreshPeer f.src s)

/-- The owner of a DATA, by its DIR (R38). -/
def dataOwner (f : Frame) (s : State) : State :=
  if f.dir then
    deliver f
      (fun t =>
        if t.station.mode = .withdrawing then (.refuse reasonWithdrawing, t)
        else takeChannelData f.src f.xch f.tgl f.payload t)
      (refreshPeer f.src s)
  else
    deliver f (byIdentity f.src f.xch fun k => dataToContext k f.tgl f.payload) (refreshPeer f.src s)

/-- The owner of a CLOSE (R38, R157). -/
def closeOwner (f : Frame) (s : State) : State :=
  deliver f (byIdentity f.src f.xch closeToContext) (refreshPeer f.src s)

/-- The owner of an ABORT (R38, R158). -/
def abortOwner (f : Frame) (s : State) : State :=
  deliver f (byIdentity f.src f.xch abortToContext) (refreshPeer f.src s)

/-- The owner of an answer: the ask in flight, if it matches (R39). -/
def answerOwner (f : Frame) (a : Answer) (s : State) : State :=
  if s.matchesAsk f then resolveAsk (.taken a) (refreshPeer f.src s) else refreshPeer f.src s

/-! ### Payloads read back -/

/-- The announcement in a JOIN's or PRESENCE's payload (R29). -/
def announcementOf (p : List Byte) : Announcement :=
  { interval := p.getD 0 0, openWindows := p.getD 1 0, freeContexts := p.getD 2 0, zero := p.getD 3 0 }

/-- The fields of a REQUEST's payload (R30). -/
def requestBodyOf (p : List Byte) : RequestBody :=
  { op := p.getD 0 0, windowId := p.getD 1 0, sizeCode := p.getD 2 0, zero := p.getD 3 0,
    offset := word (p.getD 4 0) (p.getD 5 0), total := word (p.getD 6 0) (p.getD 7 0) }

/-- The owner of a frame by its kind (R38). -/
def ownerOf (f : Frame) (s : State) : State :=
  match f.kind with
  | .join => peerJoined f.src (announcementOf f.payload) s
  | .presence => peerAnnounced f.src (announcementOf f.payload) s
  | .leave => peerLeaves f.src s
  | .request => requestOwner f (requestBodyOf f.payload) s
  | .data => dataOwner f s
  | .close => closeOwner f s
  | .abort => abortOwner f s
  | .accept => answerOwner f .accept s
  | .refuse => answerOwner f (.refuse (f.payload.getD 0 0)) s
  | .ack => answerOwner f (.ack f.tgl) s
  | .wait => answerOwner f .wait s
  | .report => answerOwner f (.report f.payload) s

/-! ### The arrival -/

/-- L after a valid frame: the DST of an answer, else the SRC (R13). -/
def frameL (f : Frame) : StationNo := if f.kind.answer then f.dst else f.src

/-- The phase after a valid frame: a reply gap after an addressed asking frame, else QUIET (R7). -/
def framePhase (f : Frame) : Phase := if f.kind.addressedAsk then .replyGap else .quiet

/-- The LAU's part of a valid frame's arrival: an ask in flight that the frame does not answer ends NO_ANSWER, L is
brought up to date, and the next phase begins (R7, R13, R17; log 12). -/
def lauTakesFrame (f : Frame) (s : State) : State :=
  let s₁ := if s.matchesAsk f then s else resolveAsk .noAnswer s
  ((s₁.setL (frameL f) false).setPhase (framePhase f)).setAnswer none

/-- A valid frame ends on the line: this station's own number is a clash report; otherwise the LAU, the Peer Table
and the owner take it in one arrival (R20, R37, R51). Activity whose start was not seen, or that the receiver does not
hear, passes nothing (R5, R6). A payload no frame may carry makes the frame malformed (R35; log 6). -/
def arrive (f : Frame) (owner : State → State) (s : State) : State :=
  if !s.lau.phase.hears || s.unseenActivity then s.setLineActive false
  else if !f.valid then endCorrupted (f.bytes.take 266) s
  else
    let s₁ := (s.setLineActive false).setRx f.bytes
    if f.src = s.station.number then reportClash s₁
    else checkListening (owner (lauTakesFrame f s₁))

/-! ### The frames of the rows -/

/-- A frame with no payload and DIR 0. -/
def plainFrame (k : FrameKind) (src dst : StationNo) (xch : ChannelNo) : Frame :=
  { kind := k, dir := false, tgl := false, src := src, dst := dst, xch := xch, payload := [] }

/-- A JOIN or PRESENCE. -/
def announceFrame (k : FrameKind) (src : StationNo) (p : Announcement) : Frame :=
  { plainFrame k src 0 0 with payload := p.payload }

/-- A REQUEST. -/
def requestFrame (src dst : StationNo) (xch : ChannelNo) (q : RequestBody) : Frame :=
  { plainFrame .request src dst xch with payload := q.payload }

/-- A DATA. -/
def dataFrame (dir : Bool) (src dst : StationNo) (xch : ChannelNo) (tgl : Bool) (payload : List Byte) : Frame :=
  { kind := .data, dir := dir, tgl := tgl, src := src, dst := dst, xch := xch, payload := payload }

/-! ### The meanings -/

/-- CORRUPTED_FRAME (R36): the Frame Checker classes the bits; a corrupted or malformed frame is discarded. -/
def execCorruptedFrame (a : Activity) (s : State) : Host.Outcome State Fault Refusal :=
  .next (match checkActivity a with
    | .valid f => arrive f (ownerOf f) s
    | .corrupted => endCorrupted (bufferedBytes a) s
    | .malformed => endCorrupted (bufferedBytes a) s)

/-- JOIN_FRAME_RECEIVED (R64). -/
def execJoinFrameReceived (src : StationNo) (p : Announcement) (s : State) : Host.Outcome State Fault Refusal :=
  .next (arrive (announceFrame .join src p) (peerJoined src p) s)

/-- PRESENCE_RECEIVED (R65). -/
def execPresenceReceived (src : StationNo) (p : Announcement) (s : State) : Host.Outcome State Fault Refusal :=
  .next (arrive (announceFrame .presence src p) (peerAnnounced src p) s)

/-- LEAVE_RECEIVED (R66). -/
def execLeaveReceived (src : StationNo) (s : State) : Host.Outcome State Fault Refusal :=
  .next (arrive (plainFrame .leave src 0 0) (peerLeaves src) s)

/-- REQUEST_RECEIVED (R146). -/
def execRequestReceived (src dst : StationNo) (xch : ChannelNo) (q : RequestBody) (s : State) :
    Host.Outcome State Fault Refusal :=
  .next (arrive (requestFrame src dst xch q) (requestOwner (requestFrame src dst xch q) q) s)

/-- DATA_RECEIVED (R150). -/
def execDataReceived (src dst : StationNo) (xch : ChannelNo) (tgl : Bool) (payload : List Byte) (s : State) :
    Host.Outcome State Fault Refusal :=
  .next (arrive (dataFrame false src dst xch tgl payload) (dataOwner (dataFrame false src dst xch tgl payload)) s)

/-- CHANNEL_DATA_RECEIVED (R111): DST is this station's own number. -/
def execChannelDataReceived (src : StationNo) (xch : ChannelNo) (tgl : Bool) (payload : List Byte) (s : State) :
    Host.Outcome State Fault Refusal :=
  .next (arrive (dataFrame true src s.station.number xch tgl payload)
    (dataOwner (dataFrame true src s.station.number xch tgl payload)) s)

/-- CLOSE_RECEIVED (R157). -/
def execCloseReceived (src dst : StationNo) (xch : ChannelNo) (s : State) : Host.Outcome State Fault Refusal :=
  .next (arrive (plainFrame .close src dst xch) (closeOwner (plainFrame .close src dst xch)) s)

/-- ABORT_RECEIVED (R158). -/
def execAbortReceived (src dst : StationNo) (xch : ChannelNo) (s : State) : Host.Outcome State Fault Refusal :=
  .next (arrive (plainFrame .abort src dst xch) (abortOwner (plainFrame .abort src dst xch)) s)

/-- ANSWER_RECEIVED (R39). The DIR of an answer is not checked (R25). -/
def execAnswerReceived (src dst : StationNo) (xch : ChannelNo) (dir : Bool) (a : Answer) (s : State) :
    Host.Outcome State Fault Refusal :=
  .next (arrive (a.frame dir src dst xch) (answerOwner (a.frame dir src dst xch) a) s)

/-- DIR_1_DATA_FOR_ANOTHER_STATION (R37): L, the refresh and the reply gap; no owner, for a DST that is not this
station's own number. -/
def execDir1DataForAnotherStation (src dst : StationNo) (xch : ChannelNo) (tgl : Bool) (payload : List Byte)
    (s : State) : Host.Outcome State Fault Refusal :=
  .next (arrive (dataFrame true src dst xch tgl payload) (dataOwner (dataFrame true src dst xch tgl payload)) s)

end Sys2Proof.Machine
end

