-- ==== Sys2Proof/Machine/Timers.lean ====
section
/-! DEFINITION. The timers that run out, one meaning for each, and the tick of the 1 ms timebase that counts them and
queues their ends (03_station_life.md R48, R49; the rules that own each timer). An expiry acts on a timer that has counted
to its end, which stops (log 4). -/

namespace Sys2Proof.Machine

/-! ### The expiries -/

/-- A timer has counted its time and its end is still to be taken: a restart sets the count afresh and a stop leaves no
timer, so a timer that either reached first in the same moment does not run out (R48, R67, R72, R115, R139, R160). -/
def hasRunOut (t : Option Nat) : Bool := t == some 0

/-- The listen timer runs out (R51). -/
def listenExpires (s : State) : State :=
  if hasRunOut s.station.listenTimer then checkListening (s.setStation { s.station with listenTimer := none }) else s

/-- An entry's expiry timer runs out (R67). -/
def peerExpires (p : StationNo) (s : State) : State :=
  if s.present p ∧ hasRunOut (s.peer p).expiry = true then peerGone p .lost s else s

/-- This station's presence timer runs out (R72). -/
def presenceExpires (s : State) : State :=
  if hasRunOut s.peers.presenceTimer = true ∧ s.station.mode = .online then
    (s.setPeers { s.peers with presenceTimer := none }).setStation { s.station with presenceDue := true }
  else s

/-- A channel's pause ends (R106). -/
def channelPauseExpires (c : ChannelNo) (s : State) : State :=
  if hasRunOut (s.channel c).pauseTimer then s.setChannel c { s.channel c with pauseTimer := none } else s

/-- A channel's data wait runs out in DATA (R115). -/
def dataWaitExpires (c : ChannelNo) (s : State) : State :=
  if hasRunOut (s.channel c).dataWait = true ∧ (s.channel c).state = .data then
    enterClose c (s.setChannel c { s.channel c with timeoutMark := true })
  else s

/-- A channel's deadline runs out (R138). -/
def deadlineExpires (c : ChannelNo) (s : State) : State :=
  if hasRunOut (s.channel c).deadlineTimer then
    giveUp c .deadline (s.setChannel c { s.channel c with deadlineTimer := none })
  else s

/-- A context's pause ends (R155). -/
def contextPauseExpires (k : SlotNo) (s : State) : State :=
  if hasRunOut (s.context k).pauseTimer then s.setContext k { s.context k with pauseTimer := none } else s

/-- An active context's idle timer runs out (R160). -/
def idleExpires (k : SlotNo) (s : State) : State :=
  if hasRunOut (s.context k).idleTimer = true ∧ (s.context k).state.active = true then endContext k .idleTimeout s else s

/-- A LINGERING context's timer runs out (R161). -/
def lingerExpires (k : SlotNo) (s : State) : State :=
  if hasRunOut (s.context k).idleTimer = true ∧ (s.context k).state = .lingering then freeContext k s else s

/-- LISTEN_TIMER_EXPIRY (R51). -/
def execListenTimerExpiry (s : State) : Host.Outcome State Fault Refusal := .next (listenExpires s)

/-- PEER_EXPIRY (R67). -/
def execPeerExpiry (peer : StationNo) (s : State) : Host.Outcome State Fault Refusal := .next (peerExpires peer s)

/-- PRESENCE_TIMER_EXPIRY (R72). -/
def execPresenceTimerExpiry (s : State) : Host.Outcome State Fault Refusal := .next (presenceExpires s)

/-- CHANNEL_PAUSE_EXPIRY (R106). -/
def execChannelPauseExpiry (ch : ChannelNo) (s : State) : Host.Outcome State Fault Refusal :=
  .next (channelPauseExpires ch s)

/-- DATA_WAIT_EXPIRY (R115). -/
def execDataWaitExpiry (ch : ChannelNo) (s : State) : Host.Outcome State Fault Refusal := .next (dataWaitExpires ch s)

/-- DEADLINE_EXPIRY (R138). -/
def execDeadlineExpiry (ch : ChannelNo) (s : State) : Host.Outcome State Fault Refusal := .next (deadlineExpires ch s)

/-- CONTEXT_PAUSE_EXPIRY (R155). -/
def execContextPauseExpiry (slot : SlotNo) (s : State) : Host.Outcome State Fault Refusal :=
  .next (contextPauseExpires slot s)

/-- IDLE_TIMER_EXPIRY (R160). -/
def execIdleTimerExpiry (slot : SlotNo) (s : State) : Host.Outcome State Fault Refusal := .next (idleExpires slot s)

/-- LINGER_EXPIRY (R161). -/
def execLingerExpiry (slot : SlotNo) (s : State) : Host.Outcome State Fault Refusal := .next (lingerExpires slot s)

/-! ### The tick (R48; log 2) -/

/-- One millisecond counted off a timer. -/
def countDown (t : Option Nat) : Option Nat := t.map (· - 1)

/-- Whether a timer runs out at the coming tick. -/
def runsOut (t : Option Nat) : Bool :=
  match t with
  | some n => decide (n ≤ 1)
  | none => false

/-- A channel's timers counted down. -/
def Channel.counted (ch : Channel) : Channel :=
  { ch with pauseTimer := countDown ch.pauseTimer, deadlineTimer := countDown ch.deadlineTimer,
            dataWait := countDown ch.dataWait }

/-- A context's timers counted down. -/
def Context.counted (x : Context) : Context :=
  { x with pauseTimer := countDown x.pauseTimer, idleTimer := countDown x.idleTimer }

/-- Every timer counted down, and the timebase up. -/
def countTimers (s : State) : State :=
  let s₁ := s.setStation { s.station with
    ticks := s.station.ticks + 1, listenTimer := countDown s.station.listenTimer }
  let s₂ := s₁.setPeers {
    entries := s.peers.entries.map fun e => { e with expiry := countDown e.expiry }
    presenceTimer := countDown s.peers.presenceTimer }
  (s₂.setChans { s.chans with recs := s.chans.recs.map Channel.counted }).setCtxs
    { s.ctxs with slots := s.ctxs.slots.map Context.counted }

/-- One event where its timer runs out. -/
def dueWhere (t : Option Nat) (i : Instr) : List Instr := if runsOut t then [i] else []

/-- The events of a channel's timers that run out at the coming tick. -/
def channelDue (s : State) (c : ChannelNo) : List Instr :=
  dueWhere (s.channel c).pauseTimer (.channelPauseExpiry c) ++ dueWhere (s.channel c).dataWait (.dataWaitExpiry c) ++
    dueWhere (s.channel c).deadlineTimer (.deadlineExpiry c)

/-- The events of a context's timers that run out at the coming tick. -/
def contextDue (s : State) (k : SlotNo) : List Instr :=
  dueWhere (s.context k).pauseTimer (.contextPauseExpiry k) ++
    dueWhere (s.context k).idleTimer
      (if (s.context k).state = .lingering then .lingerExpiry k else .idleTimerExpiry k)

/-- The events of all timers that run out at the coming tick. -/
def dueEvents (s : State) : List Instr :=
  dueWhere s.station.listenTimer .listenTimerExpiry ++ dueWhere s.peers.presenceTimer .presenceTimerExpiry ++
    (allStations.flatMap fun p => dueWhere (s.peer p).expiry (.peerExpiry p)) ++ allChannels.flatMap (channelDue s) ++
    allSlots.flatMap (contextDue s)

/-- An event put at a place of a list. -/
def putAt (i : Instr) (place : Nat) (l : List Instr) : List Instr := l.take place ++ i :: l.drop place

/-- Events of one moment in a free order: each is put at a place that the next free value picks (log 3). -/
def freelyOrdered (count : Nat) : List Instr → List Instr
  | [] => []
  | i :: rest =>
    let l := freelyOrdered (count + 1) rest
    putAt i (Config.freeOrder count % (l.length + 1)) l

/-- The tick: every timer counts, and the timers that run out have their events queued in a free order. While RESET_N
is low the timebase does not run (R48). -/
def tick (s : State) : State :=
  if s.pins.resetHeld then s
  else
    let due := dueEvents s
    let s₁ := (countTimers s).setFree (s.freeCount + due.length)
    { s₁ with pending := freelyOrdered s.freeCount due }

end Sys2Proof.Machine
end

