-- ==== Sys2Proof/Machine/Dispatch.lean ====
section
/-! DEFINITION. One arm per command: the meaning it calls. -/

namespace Sys2Proof.Machine

def exec (i : Instr) (s : State) : Host.Outcome State Fault Refusal :=
  match i with
  | .resetAssert => Sys2Proof.Machine.execResetAssert s
  | .resetRelease sn rate => Sys2Proof.Machine.execResetRelease sn rate s
  | .memoryClearDone => Sys2Proof.Machine.execMemoryClearDone s
  | .configReadDone r => Sys2Proof.Machine.execConfigReadDone r s
  | .cfgClockTimeout => Sys2Proof.Machine.execCfgClockTimeout s
  | .join tag => Sys2Proof.Machine.execJoin tag s
  | .withdraw tag => Sys2Proof.Machine.execWithdraw tag s
  | .restart tag => Sys2Proof.Machine.execRestart tag s
  | .stationInfo tag => Sys2Proof.Machine.execStationInfo tag s
  | .peerInfo tag station => Sys2Proof.Machine.execPeerInfo tag station s
  | .openWindow tag id sizeCode access base mask valid => Sys2Proof.Machine.execOpenWindow tag id sizeCode access base mask valid s
  | .closeWindow tag id => Sys2Proof.Machine.execCloseWindow tag id s
  | .setValid tag id length => Sys2Proof.Machine.execSetValid tag id length s
  | .windowInfo tag id => Sys2Proof.Machine.execWindowInfo tag id s
  | .start tag ch d => Sys2Proof.Machine.execStart tag ch d s
  | .arm tag ch d => Sys2Proof.Machine.execArm tag ch d s
  | .trigger tag ch => Sys2Proof.Machine.execTrigger tag ch s
  | .hold tag ch => Sys2Proof.Machine.execHold tag ch s
  | .resume tag ch => Sys2Proof.Machine.execResume tag ch s
  | .cancel tag ch => Sys2Proof.Machine.execCancel tag ch s
  | .setDeadline tag ch ms => Sys2Proof.Machine.execSetDeadline tag ch ms s
  | .clearDeadline tag ch => Sys2Proof.Machine.execClearDeadline tag ch s
  | .channelInfo tag ch part => Sys2Proof.Machine.execChannelInfo tag ch part s
  | .release tag ch => Sys2Proof.Machine.execRelease tag ch s
  | .contextInfo tag slot part => Sys2Proof.Machine.execContextInfo tag slot part s
  | .dropContext tag slot => Sys2Proof.Machine.execDropContext tag slot s
  | .takeArrival tag => Sys2Proof.Machine.execTakeArrival tag s
  | .badCommand tag code => Sys2Proof.Machine.execBadCommand tag code s
  | .noticeWrite low value => Sys2Proof.Machine.execNoticeWrite low value s
  | .noticeMaskWrite low value => Sys2Proof.Machine.execNoticeMaskWrite low value s
  | .channelEndedWrite value => Sys2Proof.Machine.execChannelEndedWrite value s
  | .channelProgressWrite value => Sys2Proof.Machine.execChannelProgressWrite value s
  | .registerWrite address value => Sys2Proof.Machine.execRegisterWrite address value s
  | .badInstruction code => Sys2Proof.Machine.execBadInstruction code s
  | .memoryWriteByte first value => Sys2Proof.Machine.execMemoryWriteByte first value s
  | .memoryReadByte first => Sys2Proof.Machine.execMemoryReadByte first s
  | .hostClaimServed => Sys2Proof.Machine.execHostClaimServed s
  | .channelReadClaimServed => Sys2Proof.Machine.execChannelReadClaimServed s
  | .contextReadClaimServed => Sys2Proof.Machine.execContextReadClaimServed s
  | .activityStart => Sys2Proof.Machine.execActivityStart s
  | .unseenActivityEnd => Sys2Proof.Machine.execUnseenActivityEnd s
  | .corruptedFrame a => Sys2Proof.Machine.execCorruptedFrame a s
  | .joinFrameReceived src p => Sys2Proof.Machine.execJoinFrameReceived src p s
  | .presenceReceived src p => Sys2Proof.Machine.execPresenceReceived src p s
  | .leaveReceived src => Sys2Proof.Machine.execLeaveReceived src s
  | .requestReceived src dst xch q => Sys2Proof.Machine.execRequestReceived src dst xch q s
  | .dataReceived src dst xch tgl payload => Sys2Proof.Machine.execDataReceived src dst xch tgl payload s
  | .channelDataReceived src xch tgl payload => Sys2Proof.Machine.execChannelDataReceived src xch tgl payload s
  | .closeReceived src dst xch => Sys2Proof.Machine.execCloseReceived src dst xch s
  | .abortReceived src dst xch => Sys2Proof.Machine.execAbortReceived src dst xch s
  | .answerReceived src dst xch dir a => Sys2Proof.Machine.execAnswerReceived src dst xch dir a s
  | .replyGapAnswer => Sys2Proof.Machine.execReplyGapAnswer s
  | .replyGapClose => Sys2Proof.Machine.execReplyGapClose s
  | .settleGapEnd => Sys2Proof.Machine.execSettleGapEnd s
  | .slotStart => Sys2Proof.Machine.execSlotStart s
  | .silentRound => Sys2Proof.Machine.execSilentRound s
  | .transmissionEnd => Sys2Proof.Machine.execTransmissionEnd s
  | .collision => Sys2Proof.Machine.execCollision s
  | .jamEnd active => Sys2Proof.Machine.execJamEnd active s
  | .clashCountLimit => Sys2Proof.Machine.execClashCountLimit s
  | .retryExhausted ch => Sys2Proof.Machine.execRetryExhausted ch s
  | .contextRetryExhausted slot => Sys2Proof.Machine.execContextRetryExhausted slot s
  | .listenTimerExpiry => Sys2Proof.Machine.execListenTimerExpiry s
  | .peerExpiry peer => Sys2Proof.Machine.execPeerExpiry peer s
  | .presenceTimerExpiry => Sys2Proof.Machine.execPresenceTimerExpiry s
  | .channelPauseExpiry ch => Sys2Proof.Machine.execChannelPauseExpiry ch s
  | .dataWaitExpiry ch => Sys2Proof.Machine.execDataWaitExpiry ch s
  | .deadlineExpiry ch => Sys2Proof.Machine.execDeadlineExpiry ch s
  | .contextPauseExpiry slot => Sys2Proof.Machine.execContextPauseExpiry slot s
  | .idleTimerExpiry slot => Sys2Proof.Machine.execIdleTimerExpiry slot s
  | .lingerExpiry slot => Sys2Proof.Machine.execLingerExpiry slot s
  | .goWrite value => Sys2Proof.Machine.execGoWrite value s
  | .csNRise => Sys2Proof.Machine.execCsNRise s
  | .dir1DataForAnotherStation src dst xch tgl payload => Sys2Proof.Machine.execDir1DataForAnotherStation src dst xch tgl payload s

end Sys2Proof.Machine
end

