-- ==== Sys2Proof/Safety.lean ====
section
/-! DEFINITION. What the statements speak of: when the host port takes a command and what it leaves there, what the
line leaves at the LAU, what an end does to channels and contexts, and the laws that every step keeps. -/

namespace Sys2Proof.Machine

/-! ### The host port -/

/-- The port moves bytes of memory: RESET_N is high and LOADING has ended (R43, R44). -/
def PortServes (s : State) : Prop := s.pins.resetHeld = false ∧ s.station.mode ≠ .loading

/-- GO is taken: RESET_N is high, LOADING has ended, BUSY is clear and no command is due (R43, R44, R190). -/
structure HostTakes (s : State) : Prop where
  serves : PortServes s
  busy : s.port.busy = false
  due : s.port.due = false

/-- The COMMAND bytes that a host command's row writes (10_host_port.md 10.4). -/
def commandRecord : Instr → Option (List (Fin 16 × Byte))
  | .join tag => some [(0, 0x01#8), (1, tag)]
  | .withdraw tag => some [(0, 0x02#8), (1, tag)]
  | .restart tag => some [(0, 0x03#8), (1, tag)]
  | .stationInfo tag => some [(0, 0x04#8), (1, tag)]
  | .peerInfo tag station => some [(0, 0x08#8), (1, tag), (2, station)]
  | .openWindow tag id sizeCode access base mask valid =>
    some ([(0, 0x10#8), (1, tag)] ++ openWindowBytes id sizeCode access base mask valid)
  | .closeWindow tag id => some [(0, 0x11#8), (1, tag), (2, id)]
  | .setValid tag id length => some ([(0, 0x12#8), (1, tag), (2, id)] ++ wordAt 4 5 length)
  | .windowInfo tag id => some [(0, 0x13#8), (1, tag), (2, id)]
  | .start tag ch d => some ([(0, 0x20#8), (1, tag), (2, ch)] ++ descriptorBytes d)
  | .arm tag ch d => some ([(0, 0x21#8), (1, tag), (2, ch)] ++ descriptorBytes d)
  | .trigger tag ch => some [(0, 0x22#8), (1, tag), (2, ch)]
  | .hold tag ch => some [(0, 0x23#8), (1, tag), (2, ch)]
  | .resume tag ch => some [(0, 0x24#8), (1, tag), (2, ch)]
  | .cancel tag ch => some [(0, 0x25#8), (1, tag), (2, ch)]
  | .setDeadline tag ch ms => some ([(0, 0x26#8), (1, tag), (2, ch)] ++ wordAt 3 4 ms)
  | .clearDeadline tag ch => some [(0, 0x27#8), (1, tag), (2, ch)]
  | .channelInfo tag ch part => some [(0, 0x28#8), (1, tag), (2, ch), (3, part)]
  | .release tag ch => some [(0, 0x29#8), (1, tag), (2, ch)]
  | .contextInfo tag slot part => some [(0, 0x30#8), (1, tag), (2, slot), (3, part)]
  | .dropContext tag slot => some [(0, 0x31#8), (1, tag), (2, slot)]
  | .takeArrival tag => some [(0, 0x38#8), (1, tag)]
  | .badCommand tag code => some [(0, code), (1, tag)]
  | _ => none

/-- The rows that are bytes of an SPI transaction or its end (R182 to R190). -/
def isPortByte : Instr → Bool
  | .noticeWrite _ _ | .noticeMaskWrite _ _ | .channelEndedWrite _ | .channelProgressWrite _ | .registerWrite _ _
  | .badInstruction _ | .memoryWriteByte _ _ | .memoryReadByte _ | .goWrite _ | .csNRise => true
  | _ => false

/-- The register address at which a register byte's row writes (R184). -/
def registerAddress : Instr → Option Nat
  | .noticeWrite low _ => some (if low then 0x09 else 0x08)
  | .noticeMaskWrite low _ => some (if low then 0x0B else 0x0A)
  | .channelEndedWrite _ => some 0x0C
  | .channelProgressWrite _ => some 0x0D
  | .registerWrite address _ => some address.toNat
  | .goWrite _ => some 0x0F
  | _ => none

/-- A byte's row does not continue the transaction in progress, and so opens one of its own: a memory byte with a
transaction's address, an instruction byte, a register byte at another address than the one reached (R182 to R184;
log 16). -/
def OpensTransaction (s : State) : Instr → Prop
  | .memoryWriteByte first _ => first ≠ none
  | .memoryReadByte first => first ≠ none
  | .badInstruction _ => True
  | i => ∃ a, registerAddress i = some a ∧ s.port.spi ≠ some { kind := .registerWrite, address := a }

/-- The port after a command with the reply given: the RESULT area, BUSY, CMD_DONE, the COMMAND area as the host wrote
it, the mask kept, the GO transaction ended (R183, R187, R189 to R194). -/
structure Answered (s t : State) (code tag : Byte) (params : List (Fin 16 × Byte)) (r : Reply) : Prop where
  result : t.port.result = resultArea r tag code
  cmdDone : t.port.notices.cmdDone = true
  busy : t.port.busy = false
  due : t.port.due = false
  command : t.port.command = putBytes ([(0, code), (1, tag)] ++ params) s.port.command
  mask : t.port.mask = s.port.mask
  spi : t.port.spi = none
  so : t.port.so = none
  latch : t.port.latch = none
  claims : t.port.claims = keptAtRise s.port.claims

/-- The state after a command that does nothing but answer: its COMMAND bytes kept, RESULT written, BUSY clear, CMD_DONE
set, the GO transaction ended (R183, R189 to R194). -/
def State.answered (s : State) (code tag : Byte) (params : List (Fin 16 × Byte)) (r : Reply) : State :=
  s.setPort { s.port with
    command := putBytes ([(0, code), (1, tag)] ++ params) s.port.command, result := resultArea r tag code,
    notices := { s.port.notices with cmdDone := true }, busy := false, due := false, spi := none, so := none,
    latch := none, claims := keptAtRise s.port.claims }

/-! ### The line -/

/-- The receiver takes what ends on the line: it is on, this station is not sending, and the activity's start was
seen (R5, R6). -/
def Hears (s : State) : Prop := s.lau.phase.hears = true ∧ s.unseenActivity = false

/-- The listen timer has run out and the station waits for L (R51). -/
def WaitsForL (s : State) : Prop := s.station.mode = .listening ∧ s.station.listenTimer = none

/-- The valid frame a received-frame row stands for, at the station numbered `own`. -/
def receivedFrame (own : StationNo) : Instr → Option Frame
  | .joinFrameReceived src p => some (announceFrame .join src p)
  | .presenceReceived src p => some (announceFrame .presence src p)
  | .leaveReceived src => some (plainFrame .leave src 0 0)
  | .requestReceived src dst xch q => some (requestFrame src dst xch q)
  | .dataReceived src dst xch tgl payload => some (dataFrame false src dst xch tgl payload)
  | .channelDataReceived src xch tgl payload => some (dataFrame true src own xch tgl payload)
  | .dir1DataForAnotherStation src dst xch tgl payload => some (dataFrame true src dst xch tgl payload)
  | .closeReceived src dst xch => some (plainFrame .close src dst xch)
  | .abortReceived src dst xch => some (plainFrame .abort src dst xch)
  | .answerReceived src dst xch dir a => some (a.frame dir src dst xch)
  | _ => none

/-- The line after a valid frame of another station, but for the frame's owner: the received-frame buffer, L with the
recovery flag clear, the phase; no ask in flight, no answer (R7, R13, R16). -/
def State.afterFrame (s : State) (f : Frame) : State :=
  { s with
    pins := { s.pins with lineActive := false }, rx := f.bytes,
    lau := { s.lau with phase := framePhase f, last := some (frameL f), recovery := false, ask := none, answer := none } }

/-- The state after a valid frame refreshed its sender's entry, but for the frame's owner (R62, R63, R69). -/
def State.heard (s : State) (f : Frame) : State :=
  let e := s.peer f.src
  let t := (s.afterFrame f).setPeer f.src { e with state := .present, expiry := some (s.expiryLength e.announced) }
  if e.state = .present then t else raisePeerChange t

/-- The header of an answer to a frame, and its payload (R26). -/
def answerTo (s : State) (f : Frame) (kind : FrameKind) (tgl : Bool) (payload : List Byte) : Frame :=
  { kind := kind, dir := !f.dir, tgl := tgl, src := s.station.number, dst := f.src, xch := f.xch, payload := payload }

/-- This station may answer a frame: it names this station, and the station is ONLINE (R38). -/
def Addressed (s : State) (f : Frame) : Prop :=
  Hears s ∧ s.lau.ask = none ∧ f.src ≠ s.station.number ∧ f.dst = s.station.number ∧ s.station.mode = .online

/-- Slot k of the round is the next to begin (R11). -/
def NextSlot (s : State) (k : Nat) : Prop :=
  s.lau.phase = .contention k false ∨ ∃ j, s.lau.phase = .contention j true ∧ j < 32 ∧ k = j + 1

/-- A channel holds an asking frame ready and is not pausing (R21, R94). -/
def ChannelReady (ch : Channel) : Prop :=
  (ch.state = .request ∧ ch.pauseTimer = none) ∨ (ch.state = .data ∧ ch.desc.op = .put ∧ ch.built = true) ∨
    ch.state = .close ∨ ch.state = .aborting

/-- A context holds its DATA ready and is not pausing (R21, R140). -/
def ContextReady (x : Context) : Prop := x.state = .sending ∧ x.built = true ∧ x.pauseTimer = none

/-- The source at a place of the round-robin order, channels 0–7 and then contexts 0–3, is ready (R21). -/
def PlaceReady (s : State) (i : Fin 12) : Prop :=
  (∀ c : ChannelNo, i.val = c.val → ChannelReady (s.channel c)) ∧
    ∀ k : SlotNo, i.val = 8 + k.val → ContextReady (s.context k)

/-- How far a place stands behind the pointer in the circle: 0 for the place after it, 11 for its own (R21). -/
def turnsAfter (pointer i : Fin 12) : Nat := (i - pointer - 1).val

/-- The place the scheduler serves next (R21). -/
def Serves (s : State) (i : Fin 12) : Prop :=
  PlaceReady s i ∧ ∀ j, PlaceReady s j → turnsAfter s.lau.pointer i ≤ turnsAfter s.lau.pointer j

/-- An own asking frame begins (R11, R16). -/
def State.sends (s : State) (src : Source) (f : Frame) : State :=
  s.setLau { s.lau with
    phase := .transmitting
      { frame := f, source := some src, recoveryRound := s.lau.last == some 31 && s.lau.recovery, jam := false },
    ask := some { source := src, kind := f.kind, dst := f.dst, xch := f.xch } }

/-! ### Ends -/

/-- Channel c ends with a condition and a detail, and nothing else changes (R118). -/
structure ChannelEnds (c : ChannelNo) (cond : Condition) (detail : Byte) (s t : State) : Prop where
  record : t.channel c = { s.channel c with
    state := if cond = .noError then .done else .failed, condition := cond, detail := detail, deadlineTimer := none,
    dataWait := none, pauseTimer := none, askInFlight := false, holdPending := false, endPending := none,
    timeoutMark := false, built := false }
  others : ∀ d, d ≠ c → t.channel d = s.channel d
  claims : t.chans.claims = s.chans.claims.filter fun cl => cl.ch ≠ c
  marked : t.port.ended = s.port.ended ||| BitVec.twoPow 8 c.val
  rest : t = (s.setChans t.chans).setPort { s.port with ended := t.port.ended }

/-- Channel c enters ABORTING, and nothing else changes (R132). -/
structure ChannelAborts (c : ChannelNo) (why : AbortReason) (s t : State) : Prop where
  record : t.channel c = { s.channel c with
    state := .aborting, abortReason := why, condition := .none, deadlineTimer := none, dataWait := none,
    timeoutMark := false, built := false, attempts := 0 }
  others : ∀ d, d ≠ c → t.channel d = s.channel d
  claims : t.chans.claims = s.chans.claims.filter fun cl => cl.ch ≠ c
  rest : t = s.setChans t.chans

/-- Channel c enters HELD from a phase, and nothing else changes (R124, R126). -/
structure ChannelHeld (c : ChannelNo) (phase : HeldPhase) (s t : State) : Prop where
  record : t.channel c = { s.channel c with state := .held, heldPhase := phase, holdPending := false, dataWait := none }
  others : ∀ d, d ≠ c → t.channel d = s.channel d
  claims : t.chans.claims = s.chans.claims.filter fun cl => cl.ch ≠ c
  rest : t = s.setChans t.chans

/-- Channel c claims buffer memory for its next DATA (R108). -/
structure ChannelClaims (c : ChannelNo) (s t : State) : Prop where
  record : t.channel c = { s.channel c with built := false, attempts := 0 }
  others : ∀ d, d ≠ c → t.channel d = s.channel d
  claims : t.chans.claims = s.chans.claims ++
    [{ ch := c, address := (s.channel c).desc.localAddress + (s.channel c).moved,
       length := min (16 * 2 ^ (s.channel c).desc.sizeCode) (s.channel c).remaining }]
  rest : t = s.setChans t.chans

/-- An event acts on every channel as `g` says; a channel that it ends is marked in CHANNEL_ENDED and its claim is
withdrawn (R118, R121 to R123). -/
structure ChannelsTake (g : Channel → Channel) (s t : State) : Prop where
  records : ∀ c, t.channel c = g (s.channel c)
  marks : ∀ c : ChannelNo, t.port.ended.getLsbD c.val =
    (s.port.ended.getLsbD c.val || ((g (s.channel c)).state.ended && !(s.channel c).state.ended))
  claims : t.chans.claims = s.chans.claims.filter fun cl =>
    !((g (s.channel cl.ch)).state.ended && !(s.channel cl.ch).state.ended)
  progress : t.port.progress = s.port.progress

/-- A channel under an event that ends running channels (R121, R122): with its ask in flight the end is pending, and
the first reason stays (R104). -/
def Channel.interrupted (why : Condition) (ch : Channel) : Channel :=
  let reason := if ch.state = .aborting then ch.abortReason.condition else why
  if ch.state = .held ∨ ((ch.state.phase.isSome ∨ ch.state = .aborting) ∧ ch.askInFlight = false) then
    ch.ended reason 0
  else if ch.state.phase.isSome ∨ ch.state = .aborting then
    { ch with endPending := some (ch.endPending.getD reason) }
  else ch

/-- A channel on entry to WITHDRAWING (R122). -/
def Channel.withdrawn (ch : Channel) : Channel :=
  if ch.state = .armed then ch.ended .withdrawn 0 else ch.interrupted .withdrawn

/-- A channel on entry to CLASH (R123). -/
def Channel.clashed (ch : Channel) : Channel :=
  if ch.state = .idle ∨ ch.state = .done ∨ ch.state = .failed then ch else ch.ended .clash 0

/-- The arrival queue after records are appended in order (R178). -/
def ArrivalQueue.taking (q : ArrivalQueue) (rs : List Arrival) : ArrivalQueue :=
  { records := (q.records ++ rs).take (max 16 q.records.length),
    overflow := q.overflow || decide (16 < q.records.length + rs.length ∧ rs ≠ []) }

/-- The notices after the same appends (R181). -/
def Notices.taking (n : Notices) (q : ArrivalQueue) (rs : List Arrival) : Notices :=
  { n with
    arrival := n.arrival || decide (q.records.length < 16 ∧ rs ≠ []),
    arrivalOverflow := n.arrivalOverflow || decide (16 < q.records.length + rs.length ∧ rs ≠ []) }

/-- The record of a context that ends (R162): LINGERING for results 0–7, else FREE. -/
def Context.after (x : Context) (r : Result) (valid limit : Nat) : Context :=
  { x with
    state := if r.code ≤ 7 then .lingering else .free, result := some r,
    stored := some { result := r, count := x.moved, valid := if x.op = .list then 0 else valid }, pauseTimer := none,
    idleTimer := if r.code ≤ 7 then some limit else none, askInFlight := false, finalMark := false, built := false }

/-- The arrival record of a context that ends (R163). -/
def Context.record (x : Context) (r : Result) : Arrival :=
  { windowId := if x.op = .list then none else some x.windowId, initiator := x.initiator, xch := x.xch, op := x.op,
    offset := if x.op = .list then 0 else x.offset, count := x.moved, result := r }

/-- Context k ends with a result, and nothing else changes (R84, R162, R163, R178). -/
structure ContextEnds (k : SlotNo) (r : Result) (s t : State) : Prop where
  window : ∀ w, t.window w =
    if (s.context k).op = .put ∧ r = .ok ∧ w = (s.context k).windowId then
      { s.window w with valid := max (s.window w).valid ((s.context k).offset + (s.context k).moved) }
    else s.window w
  record : t.context k = (s.context k).after r (t.window (s.context k).windowId).valid (100 * s.station.conf.idleLimit)
  others : ∀ j, j ≠ k → t.context j = s.context j
  linger : t.ctxs.linger = if r.code ≤ 7 then s.ctxs.linger ++ [k] else s.ctxs.linger
  claims : t.ctxs.claims = s.ctxs.claims.filter fun cl => cl.slot ≠ k
  arrivals : t.arrivals = s.arrivals.taking [(s.context k).record r]
  notices : t.port.notices = s.port.notices.taking s.arrivals [(s.context k).record r]
  rest : t = (((s.setWindows t.windows).setCtxs t.ctxs).setArrivals t.arrivals).setPort
    { s.port with notices := t.port.notices }

/-- Context k is freed with no record, and nothing else changes (R142, R143). -/
structure ContextFreed (k : SlotNo) (s t : State) : Prop where
  record : t.context k = { s.context k with
    state := .free, pauseTimer := none, idleTimer := none, askInFlight := false, finalMark := false, built := false }
  others : ∀ j, j ≠ k → t.context j = s.context j
  linger : t.ctxs.linger = s.ctxs.linger.filter fun j => j ≠ k
  claims : t.ctxs.claims = s.ctxs.claims.filter fun cl => cl.slot ≠ k
  rest : t = s.setCtxs t.ctxs

/-- The slots an event reaches, in ascending order, with an active or a LINGERING context. -/
def State.slotsWith (s : State) (p : Context → Bool) : List SlotNo := allSlots.filter fun k => p (s.context k)

/-- An event ends every active context that meets `p` with a result, in ascending slot order, and frees the LINGERING
ones that meet it where it frees (R142, R162, R165 to R167). The result is none that raises a valid length. -/
structure ContextsTake (p : Context → Bool) (r : Result) (frees : Bool) (s t : State) : Prop where
  records : ∀ k, t.context k =
    if p (s.context k) && (s.context k).state.active then
      (s.context k).after r (s.window (s.context k).windowId).valid (100 * s.station.conf.idleLimit)
    else if p (s.context k) && (s.context k).state == .lingering && frees then
      { s.context k with
        state := .free, pauseTimer := none, idleTimer := none, askInFlight := false, finalMark := false, built := false }
    else s.context k
  linger : t.ctxs.linger =
    (s.ctxs.linger.filter fun k => !(p (s.context k) && (s.context k).state == .lingering && frees)) ++
      if r.code ≤ 7 then s.slotsWith fun x => p x && x.state.active else []
  claims : t.ctxs.claims = s.ctxs.claims.filter fun cl =>
    !(p (s.context cl.slot) && ((s.context cl.slot).state.active || ((s.context cl.slot).state == .lingering && frees)))
  arrivals : t.arrivals =
    s.arrivals.taking ((s.slotsWith fun x => p x && x.state.active).map fun k => (s.context k).record r)

/-- The notices that the same event's appends set. -/
def State.recordsOf (s : State) (p : Context → Bool) (r : Result) : List Arrival :=
  (s.slotsWith fun x => p x && x.state.active).map fun k => (s.context k).record r

/-- A peer event reaches both engines, and PEER_CHANGE is set (R69, R121, R166). -/
structure PeerEventTaken (p : StationNo) (why : Condition) (s t : State) : Prop where
  channels : ChannelsTake (fun ch => if ch.desc.peer = p then ch.interrupted why else ch) s t
  contexts : ContextsTake (fun x => x.initiator == p) .peerGone true s t
  rest : t = (((s.setChans t.chans).setCtxs t.ctxs).setArrivals t.arrivals).setPort
    { s.port with
      ended := t.port.ended,
      notices := { s.port.notices.taking s.arrivals (s.recordsOf (fun x => x.initiator == p) .peerGone) with
        peerChange := true } }

/-! ### Station states -/

/-- The station source emptied, the withdraw-pending flag clear, the listen timer stopped, in a new state (R42). -/
def Station.silentIn (x : Station) (m : StationMode) : Station :=
  { x with
    mode := m, joinReady := false, leaveReady := false, presenceDue := false, withdrawPending := false,
    listenTimer := none }

/-- The Peer Table cleared, the SELF entry kept as it reads (R60, R61, R70). -/
def PeersCleared (s t : State) : Prop :=
  t.peers.presenceTimer = none ∧
    ∀ p, t.peer p =
      { state := if p = s.station.number then .self else .absent, announced := none, expiry := none, openWindows := 0,
        freeContexts := 0, joinCount := if p = s.station.number then (s.peer p).joinCount else 0 }

/-- Entry to WITHDRAWING (R55, R70, R122, R167). -/
structure EntersWithdrawing (s t : State) : Prop where
  station : t.station = { s.station with
    mode := .withdrawing, leaveReady := true, joinReady := false, presenceDue := false, withdrawPending := false }
  peers : t.peers = { s.peers with presenceTimer := none }
  channels : ChannelsTake Channel.withdrawn s t
  contexts : ContextsTake (fun _ => true) .withdrawn true s t
  rest : t = (((((s.setStation t.station).setPeers t.peers).setChans t.chans).setCtxs t.ctxs).setArrivals
    t.arrivals).setPort { s.port with
      ended := t.port.ended,
      notices := { s.port.notices.taking s.arrivals (s.recordsOf (fun _ => true) .withdrawn) with stateChange := true } }

/-- Entry to WITHDRAWN straight from OFFLINE, LISTENING or JOINING: for the engines an entry to WITHDRAWING (R56, R70). -/
structure EntersWithdrawn (s t : State) : Prop where
  station : t.station = s.station.silentIn .withdrawn
  lau : t.lau = { s.lau with phase := .silent, ask := none, answer := none }
  peers : PeersCleared s t
  channels : ChannelsTake Channel.withdrawn s t
  contexts : ContextsTake (fun _ => true) .withdrawn true s t
  rest : t = ((((((s.setStation t.station).setLau t.lau).setPeers t.peers).setChans t.chans).setCtxs t.ctxs).setArrivals
    t.arrivals).setPort { s.port with
      ended := t.port.ended,
      notices := { s.port.notices.taking s.arrivals (s.recordsOf (fun _ => true) .withdrawn) with
        stateChange := true, peerChange := s.port.notices.peerChange || s.anyPresent } }

/-- Entry to CLASH (R6, R35, R57, R69, R123, R167). -/
structure EntersClash (s t : State) : Prop where
  station : t.station = s.station.silentIn .clash
  lau : t.lau = { s.lau with phase := .silent, ask := none, answer := none }
  rx : t.rx = []
  peers : PeersCleared s t
  channels : ChannelsTake Channel.clashed s t
  contexts : ContextsTake (fun _ => true) .clash true s t
  rest : t = (((((((s.setStation t.station).setLau t.lau).setRx t.rx).setPeers t.peers).setChans t.chans).setCtxs
    t.ctxs).setArrivals t.arrivals).setPort { s.port with
      ended := t.port.ended,
      notices := { s.port.notices.taking s.arrivals (s.recordsOf (fun _ => true) .clash) with
        stateChange := true, peerChange := s.port.notices.peerChange || s.anyPresent } }

/-- The end of LOADING with the values and the source the read gave (R47, R51, R197). -/
structure LoadingEnds (conf : ConfigValues) (source : ConfigSource) (s t : State) : Prop where
  station : t.station = { s.station with
    mode := if conf.autoJoin then .listening else .offline, conf := conf, confSource := source,
    listenTimer := if conf.autoJoin then some (30 * conf.presenceInterval) else s.station.listenTimer }
  lau : t.lau = if conf.autoJoin then
      { s.lau with phase := .quiet, last := none, recovery := false, ask := none, answer := none } else s.lau
  port : t.port = { s.port with
    busy := false,
    notices := { s.port.notices with
      stateChange := true, config := s.port.notices.config || source == .partially || source == .badImage } }
  rest : t = ((s.setStation t.station).setLau t.lau).setPort t.port

/-- Every block at its full-reset value with the straps given; buffer memory is not touched (R4, R42, R43, R60, R76,
R93, R142, R173, R177, R196). The held phase is the model's choice (log 25). -/
structure FullReset (sn : StationNo) (rate : Fin 4) (held : Bool) (s t : State) : Prop where
  pins : t.pins = { resetHeld := held, lineActive := s.pins.lineActive }
  lau : t.lau = { phase := .silent, last := some 31, recovery := false, clash := 0, pointer := 11, ask := none,
                  answer := none }
  rx : t.rx = []
  station : t.station =
    { mode := .loading, number := sn, rate := rate,
      conf := { retryLimit := 3, presenceInterval := 10, idleLimit := 20, autoJoin := false }, confSource := .noDevice,
      listenTimer := none, withdrawPending := false, joinReady := false, leaveReady := false, presenceDue := false,
      ticks := 0, clearDone := false, readDone := none }
  peers : ∀ p, t.peer p =
    { state := if p = sn then .self else .absent, announced := none, expiry := none, openWindows := 0,
      freeContexts := 0, joinCount := 0 }
  presence : t.peers.presenceTimer = none
  windows : ∀ w, t.window w = { isOpen := false, base := 0, sizeCode := 0, access := .none, mask := 0#32, valid := 0 }
  channels : ∀ c, t.channel c =
    { desc := { peer := 0, op := .none, windowId := 0, remoteOffset := 0, localAddress := 0, total := 0, sizeCode := 0,
                shortOk := false, progress := 0, next := none, deadline := 0 },
      state := .idle, heldPhase := .request, moved := 0, remaining := 0, toggle := false, attempts := 0,
      askInFlight := false, holdPending := false, endPending := none, abortReason := .none, timeoutMark := false,
      heldFrame := { payload := [], tgl := false }, built := false, pauseTimer := none, condition := .none,
      detail := 0#8, deadlineTimer := none, dataWait := none, progressCount := 0 }
  channelClaims : t.chans.claims = []
  contexts : ∀ k, t.context k =
    { state := .free, initiator := 0, xch := 0, op := .none, windowId := 0, offset := 0, total := 0, sizeCode := 0,
      amount := 0, moved := 0, toggle := false, heldFrame := { payload := [], tgl := false }, built := false,
      finalMark := false, attempts := 0, askInFlight := false, pauseTimer := none, idleTimer := none, result := none,
      stored := none, snapshot := [] }
  linger : t.ctxs.linger = []
  contextClaims : t.ctxs.claims = []
  memory : t.buffer = { cells := s.buffer.cells, pointer := .responders }
  arrivals : t.arrivals = { records := [], overflow := false }
  notices : t.port.notices =
    { cmdDone := false, arrival := false, arrivalOverflow := false, peerChange := false, stateChange := false,
      config := false }
  mask : t.port.mask = 0#8
  ended : t.port.ended = 0#8
  progress : t.port.progress = 0#8
  command : t.port.command = Vector.replicate 16 0#8
  result : t.port.result = Vector.replicate 16 0#8
  busy : t.port.busy = true
  due : t.port.due = false
  transaction : t.port.spi = none ∧ t.port.so = none ∧ t.port.latch = none ∧ t.port.claims = []
  queue : t.pending = s.pending ∧ t.freeCount = s.freeCount

/-! ### Timers -/

/-- The rows that are timers running out (R48). -/
def isTimerRow : Instr → Bool
  | .listenTimerExpiry | .presenceTimerExpiry | .peerExpiry _ | .channelPauseExpiry _ | .dataWaitExpiry _
  | .deadlineExpiry _ | .contextPauseExpiry _ | .idleTimerExpiry _ | .lingerExpiry _ => true
  | _ => false

/-- The timer whose end a timer row is, as it stands (R48). -/
def timerOf (s : State) : Instr → Option Nat
  | .listenTimerExpiry => s.station.listenTimer
  | .presenceTimerExpiry => s.peers.presenceTimer
  | .peerExpiry p => (s.peer p).expiry
  | .channelPauseExpiry c => (s.channel c).pauseTimer
  | .dataWaitExpiry c => (s.channel c).dataWait
  | .deadlineExpiry c => (s.channel c).deadlineTimer
  | .contextPauseExpiry k => (s.context k).pauseTimer
  | .idleTimerExpiry k => if (s.context k).state = .lingering then none else (s.context k).idleTimer
  | .lingerExpiry k => if (s.context k).state = .lingering then (s.context k).idleTimer else none
  | _ => none

/-! ### Laws that every step keeps -/

/-- Buffer memory keeps its canonical form, within 65,536 addresses (R170). -/
def MemoryLaw (s : State) : Prop := Memory.wf s.buffer.cells = true

/-- At most 16 records, and OVERFLOW never with an empty queue (R177, R179). -/
def ArrivalLaw (s : State) : Prop :=
  s.arrivals.records.length ≤ 16 ∧ (s.arrivals.overflow = true → s.arrivals.records ≠ [])

/-- The entry of the station's own number is SELF, and no other is (R60). -/
def SelfLaw (s : State) : Prop := ∀ p, (s.peer p).state = .self ↔ p = s.station.number

/-- The condition of a channel by its state; a reason to abort or to end is a reason (R92, R120). -/
def Channel.conditionLaw (ch : Channel) : Prop :=
  (ch.state = .done → ch.condition = .noError) ∧
    (ch.state = .failed → ch.condition ≠ .noError ∧ ch.condition ≠ .none) ∧
    (ch.state.ended = false → ch.condition = .none) ∧ (ch.state = .aborting → ch.abortReason ≠ .none) ∧
    ch.endPending ≠ some .none ∧ ch.endPending ≠ some .noError

/-- Every channel keeps its condition law. -/
def ConditionLaw (s : State) : Prop := ∀ c, (s.channel c).conditionLaw

/-- Two windows share no byte (R78). -/
def Window.apart (v w : Window) : Prop := v.base + v.size ≤ w.base ∨ w.base + w.size ≤ v.base

/-- No two OPEN windows share a byte, and each lies in buffer memory with its base a multiple of its size (R78). -/
def WindowLaw (s : State) : Prop :=
  (∀ v w, v ≠ w → (s.window v).isOpen = true → (s.window w).isOpen = true → (s.window v).apart (s.window w)) ∧
    ∀ w, (s.window w).isOpen = true →
      (s.window w).base % (s.window w).size = 0 ∧ (s.window w).base + (s.window w).size ≤ 65536

/-- At most one non-FREE context holds any one exchange identity, an ask in flight is a SENDING context's, and the
linger order lists the LINGERING slots, each once (R140, R141, R143). -/
structure SlotLaw (s : State) : Prop where
  identity : ∀ j k, (s.context j).state ≠ .free → (s.context k).state ≠ .free →
    (s.context j).initiator = (s.context k).initiator → (s.context j).xch = (s.context k).xch → j = k
  asking : ∀ k, (s.context k).askInFlight = true → (s.context k).state = .sending
  once : s.ctxs.linger.Nodup
  lingering : ∀ k, k ∈ s.ctxs.linger ↔ (s.context k).state = .lingering

end Sys2Proof.Machine
end

