-- ==== Sys2Proof/WellFormed.lean ====
section
/-! DEFINITION. Which commands are well formed: the frame rules a received frame of each row meets (R25, R28, R35),
an image the Configuration Reader can have read (R45), codes that are not in a table (R182, R192). -/

namespace Sys2Proof

/-- A read without a fault that gave exactly the bytes the Reader asks for (R45). -/
def ConfigRead.wellFormed : ConfigRead → Bool
  | .image bytes => bytes.length == imageLength bytes
  | _ => true

/-- What each row's operands satisfy beyond their types. -/
def Instr.wellFormed : Instr → Bool
  | .configReadDone r => r.wellFormed
  | .badCommand _ code => !commandCodes.contains code.toNat
  | .badInstruction code => !spiCodes.contains code.toNat
  | .corruptedFrame a =>
    match checkActivity a with
    | .valid _ => false
    | _ => true
  | .dataReceived _ _ _ _ payload => payload.length ≤ 256
  | .channelDataReceived _ _ _ payload => payload.length ≤ 256
  | .dir1DataForAnotherStation _ _ _ _ payload => payload.length ≤ 256
  | .answerReceived _ _ _ _ a => a.payload.length ≤ 256
  | .resetAssert | .resetRelease _ _ | .memoryClearDone | .cfgClockTimeout | .join _ | .withdraw _ | .restart _
  | .stationInfo _ | .peerInfo _ _ | .openWindow _ _ _ _ _ _ _ | .closeWindow _ _ | .setValid _ _ _
  | .windowInfo _ _ | .start _ _ _ | .arm _ _ _ | .trigger _ _ | .hold _ _ | .resume _ _ | .cancel _ _
  | .setDeadline _ _ _ | .clearDeadline _ _ | .channelInfo _ _ _ | .release _ _ | .contextInfo _ _ _
  | .dropContext _ _ | .takeArrival _ | .noticeWrite _ _ | .noticeMaskWrite _ _ | .channelEndedWrite _
  | .channelProgressWrite _ | .registerWrite _ _ | .memoryWriteByte _ _ | .memoryReadByte _ | .hostClaimServed
  | .channelReadClaimServed | .contextReadClaimServed | .activityStart | .unseenActivityEnd
  | .joinFrameReceived _ _ | .presenceReceived _ _ | .leaveReceived _ | .requestReceived _ _ _ _
  | .closeReceived _ _ _ | .abortReceived _ _ _ | .replyGapAnswer | .replyGapClose | .settleGapEnd | .slotStart
  | .silentRound | .transmissionEnd | .collision | .jamEnd _ | .clashCountLimit | .retryExhausted _
  | .contextRetryExhausted _ | .listenTimerExpiry | .peerExpiry _ | .presenceTimerExpiry | .channelPauseExpiry _
  | .dataWaitExpiry _ | .deadlineExpiry _ | .contextPauseExpiry _ | .idleTimerExpiry _ | .lingerExpiry _
  | .goWrite _ | .csNRise => true

end Sys2Proof
end

