-- ==== Sys2Proof/Certificates/Slice0/Obligations.lean ====
section
/-! DEFINITION. The statements for the provers: what each command does to the state, what it leaves unchanged, and the
laws that every step keeps. Where a statement rests on a choice of the model, its docstring names the log entry. -/

open Sys2Proof Sys2Proof.Machine

/-! ### The queue, the tick -/

/-- One step takes the command at the front of the queue and runs it on the state with the queue's rest. -/
def Obligations.StepRunsFrontCommand : Prop :=
  ∀ (s : State) (c : Instr) (rest : List Instr), s.pending = c :: rest → step s = exec c { s with pending := rest }

/-- On an empty queue one millisecond passes: every running timer loses 1 ms, and the events of exactly those that
run out are queued, each once (R48; that the tick is the empty queue's step: log 2; their order is free: log 3). With
RESET_N low nothing happens. -/
def Obligations.EmptyQueueTicks : Prop :=
  ∀ s : State, s.pending = [] →
    (s.pins.resetHeld = true → step s = .next s) ∧
    (s.pins.resetHeld = false → ∃ t, step s = .next t ∧
      t.station = { s.station with
        ticks := s.station.ticks + 1, listenTimer := s.station.listenTimer.map (· - 1) } ∧
      t.peers.presenceTimer = s.peers.presenceTimer.map (· - 1) ∧
      (∀ p, t.peer p = { s.peer p with expiry := (s.peer p).expiry.map (· - 1) }) ∧
      (∀ c, t.channel c = { s.channel c with
        pauseTimer := (s.channel c).pauseTimer.map (· - 1), dataWait := (s.channel c).dataWait.map (· - 1),
        deadlineTimer := (s.channel c).deadlineTimer.map (· - 1) }) ∧
      (∀ k, t.context k = { s.context k with
        pauseTimer := (s.context k).pauseTimer.map (· - 1), idleTimer := (s.context k).idleTimer.map (· - 1) }) ∧
      t.chans.claims = s.chans.claims ∧ t.ctxs.linger = s.ctxs.linger ∧ t.ctxs.claims = s.ctxs.claims ∧
      t.pins = s.pins ∧ t.lau = s.lau ∧ t.rx = s.rx ∧ t.windows = s.windows ∧ t.buffer = s.buffer ∧
      t.arrivals = s.arrivals ∧ t.port = s.port ∧
      (∀ i, i ∈ t.pending ↔ ∃ n, timerOf s i = some n ∧ n ≤ 1) ∧ t.pending.Nodup)

/-- Every command in every state answers a next state, and none touches the queue or the counter of free values. -/
def Obligations.CommandsCompleteAndKeepTheQueue : Prop :=
  ∀ (c : Instr) (s : State), ∃ t, exec c s = .next t ∧ t.pending = s.pending ∧ t.freeCount = s.freeCount

/-! ### Reset and LOADING -/

/-- RESET_ASSERT, RESET_RELEASE and the state right after reset hold every block's full-reset values (R4, R42, R60, R76,
R93, R142, R173, R177, R196). That RESET_ASSERT already gives them is log 24; State.reset's straps and idle line are
log 5. -/
def Obligations.FullResetValues : Prop :=
  (∀ s : State, ∃ t, exec .resetAssert s = .next t ∧ FullReset s.station.number s.station.rate true s t) ∧
    (∀ (s : State) (sn : StationNo) (rate : Fin 4),
      ∃ t, exec (.resetRelease sn rate) s = .next t ∧ FullReset sn rate false s t) ∧
    FullReset 0 0 false State.reset State.reset ∧ State.reset.buffer.cells = []

/-- The first of the two tasks of LOADING to end is recorded; the later one ends LOADING with the values and the
source of the read. The clearing leaves every byte 0 (R43, R45, R47, R170). -/
def Obligations.LoadingTasks : Prop :=
  ∀ s : State, s.pins.resetHeld = false → s.station.mode = .loading →
    (s.station.clearDone = false →
      ∀ t, t = (s.setBuffer { s.buffer with cells := [] }).setStation { s.station with clearDone := true } →
        (∀ a, memGet t.buffer.cells a = 0#8) ∧
        (s.station.readDone = none → exec .memoryClearDone s = .next t) ∧
        ∀ conf source, s.station.readDone = some (conf, source) →
          ∃ u, exec .memoryClearDone s = .next u ∧ LoadingEnds conf source t u) ∧
    (s.station.readDone = none →
      ∀ i r, (i = .configReadDone .noDevice ∧ r = (ConfigValues.default, .noDevice)) ∨
          ((i = .configReadDone .noAcknowledge ∨ i = .configReadDone .dataHeldLow ∨ i = .cfgClockTimeout) ∧
            r = (ConfigValues.default, .badImage)) ∨
          (∃ bytes, i = .configReadDone (.image bytes) ∧ r = validateImage bytes) →
        (s.station.clearDone = false → exec i s = .next (s.setStation { s.station with readDone := some r })) ∧
        (s.station.clearDone = true → ∃ u, exec i s = .next u ∧
          LoadingEnds r.1 r.2 (s.setStation { s.station with readDone := some r }) u))

/-- The value the last pair of an item gives, the default where there is none or it is out of range (R46). -/
def Sys2Proof.Machine.lastItem (pairs : List (Byte × Byte)) (item low high fallback : Nat) : Nat :=
  match (pairs.filter fun p => p.1.toNat == item).getLast? with
  | none => fallback
  | some p => if low ≤ p.2.toNat ∧ p.2.toNat ≤ high then p.2.toNat else fallback

/-- A pair with a known item code and a value out of range (R46). -/
def Sys2Proof.Machine.outOfRange (p : Byte × Byte) : Bool :=
  decide ((p.1.toNat = 1 ∧ ¬(1 ≤ p.2.toNat ∧ p.2.toNat ≤ 15)) ∨ (p.1.toNat = 2 ∧ p.2.toNat = 0) ∨
    (p.1.toNat = 3 ∧ p.2.toNat = 0) ∨ (p.1.toNat = 4 ∧ 1 < p.2.toNat))

/-- The whole image of some pairs with a check byte (R45). -/
def Sys2Proof.Machine.wholeImage (pairs : List (Byte × Byte)) (check : Byte) : List Byte :=
  [0x45#8, 0x53#8, byteOf pairs.length] ++ pairs.flatMap (fun p => [p.1, p.2]) ++ [check]

/-- What CONFIG_READ_DONE records of an image read while the clearing runs (R46): a whole image with a good sum gives
the last pair of each item, out-of-range values give the default and mark the load PARTIAL; a bad signature, a count
above 16 or a bad sum gives BAD_IMAGE and the defaults. -/
def Obligations.ImageGivesValues : Prop :=
  ∀ s : State, s.pins.resetHeld = false → s.station.mode = .loading → s.station.readDone = none →
    s.station.clearDone = false →
    (∀ (pairs : List (Byte × Byte)) (check : Byte), pairs.length ≤ 16 →
      ((wholeImage pairs check).foldl (· + ·) 0 = 0#8 →
        exec (.configReadDone (.image (wholeImage pairs check))) s = .next (s.setStation { s.station with
          readDone := some
            ({ retryLimit := lastItem pairs 1 1 15 3, presenceInterval := lastItem pairs 2 1 255 10,
               idleLimit := lastItem pairs 3 1 255 20, autoJoin := lastItem pairs 4 0 1 0 == 1 },
              if pairs.any outOfRange then .partially else .image) })) ∧
      ((wholeImage pairs check).foldl (· + ·) 0 ≠ 0#8 →
        exec (.configReadDone (.image (wholeImage pairs check))) s = .next (s.setStation { s.station with
          readDone := some
            ({ retryLimit := 3, presenceInterval := 10, idleLimit := 20, autoJoin := false }, .badImage) }))) ∧
    (∀ a b n : Byte, a ≠ 0x45#8 ∨ b ≠ 0x53#8 ∨ 16 < n.toNat →
      exec (.configReadDone (.image [a, b, n])) s = .next (s.setStation { s.station with
        readDone := some
          ({ retryLimit := 3, presenceInterval := 10, idleLimit := 20, autoJoin := false }, .badImage) }))

/-! ### The port out of service, and the mailbox -/

/-- With RESET_N low no command and no byte of the host changes anything; in LOADING a host command's row leaves its
COMMAND bytes and ends its transaction, a GO byte sets nothing, and memory bytes, the first of a transaction and the
further ones, make no claim, while the address moves on and a read shifts out 0 (R43, R44, R183, R189, R190).
The rows as whole transactions: log 8 and log 16. -/
def Obligations.PortOutOfService : Prop :=
  (∀ (i : Instr) (s : State), s.pins.resetHeld = true → (commandRecord i ≠ none ∨ isPortByte i = true) →
    exec i s = .next s) ∧
  (∀ s : State, s.pins.resetHeld = false → s.station.mode = .loading →
    (∀ i bytes, commandRecord i = some bytes → exec i s = .next (s.setPort { s.port with
      command := putBytes bytes s.port.command, spi := none, so := none, latch := none,
      claims := keptAtRise s.port.claims })) ∧
    (s.port.spi = none → ∀ v : Byte, exec (.goWrite v) s = .next (s.setPort { s.port with
      spi := some { kind := .registerWrite, address := 0x10 }, so := some 0#8 })) ∧
    (s.port.spi = none → ∀ (a : Word) (v : Byte), exec (.memoryWriteByte (some a) v) s = .next (s.setPort { s.port with
      spi := some { kind := .memoryWrite, address := (a.toNat + 1) % 65536 }, so := some 0#8 })) ∧
    (s.port.spi = none → ∀ a : Word, exec (.memoryReadByte (some a)) s = .next (s.setPort { s.port with
      spi := some { kind := .memoryRead, address := (a.toNat + 1) % 65536 }, so := some 0#8 })) ∧
    (∀ (a : Nat) (v : Byte), s.port.spi = some { kind := .memoryWrite, address := a } →
      exec (.memoryWriteByte none v) s = .next (s.setPort { s.port with
        spi := some { kind := .memoryWrite, address := (a + 1) % 65536 }, so := some 0#8 })) ∧
    (∀ a : Nat, s.port.spi = some { kind := .memoryRead, address := a } →
      exec (.memoryReadByte none) s = .next (s.setPort { s.port with
        spi := some { kind := .memoryRead, address := (a + 1) % 65536 }, so := some 0#8 })))

/-- A host command's row is the transactions it stands for, in every state with RESET_N high: the rise of CS_N of the
transaction in progress, which takes a command that is due; a register write for each of its COMMAND bytes; GO, which
is taken where BUSY is clear and LOADING has ended; and the rise of CS_N. Taken one after another from the queue these
bytes give the state that the row itself gives (R44, R184, R189, R190, R192; the row as these transactions: log 8). -/
def Obligations.CommandRowIsItsTransaction : Prop :=
  ∀ (s : State) (i : Instr) (bytes : List (Fin 16 × Byte)) (v : Byte) (rest : List Instr),
    commandRecord i = some bytes → s.pins.resetHeld = false →
    Sys2Proof.core.run (2 * bytes.length + 3) { s with
      pending := .csNRise ::
        (bytes.flatMap fun p => [.registerWrite (BitVec.ofNat 16 (0x10 + p.1.val)) p.2, .csNRise]) ++
          .goWrite v :: .csNRise :: rest } =
    exec i { s with pending := rest }

/-! ### Activity, gaps, slots -/

/-- Activity that begins on an idle line in QUIET, CONTENTION or REPLY_GAP starts a reception; activity in progress at
entry to LISTENING ends with nothing passed; a settle gap ends in CONTENTION(1) (R5, R7, R10, R35). -/
def Obligations.ActivityAndSettleGap : Prop :=
  ∀ s : State,
    ((s.lau.phase = .quiet ∧ s.pins.lineActive = false) ∨ (∃ k b, s.lau.phase = .contention k b) ∨
        s.lau.phase = .replyGap →
      exec .activityStart s = .next { s with
        lau := { s.lau with phase := .receiving }, pins := { s.pins with lineActive := true }, rx := [] }) ∧
    (s.lau.phase = .quiet → s.pins.lineActive = true →
      exec .unseenActivityEnd s = .next { s with pins := { s.pins with lineActive := false } }) ∧
    (s.lau.phase = .quiet → s.pins.lineActive = false →
      exec .settleGapEnd s = .next { s with lau := { s.lau with phase := .contention 1 false } })

/-- At the end of slot 32 of a silent round L becomes 31 with the recovery flag clear, and a new round begins at once in
CONTENTION(1), in which slot k belongs to station k − 1 (R12). Nothing else changes, save that a station that waits for
L then enters JOINING (R51). -/
def Obligations.SilentRound : Prop :=
  ∀ s : State, s.lau.phase = .contention 32 true →
    ∃ t, exec .silentRound s = .next t ∧
      t.lau = { s.lau with last := some 31, recovery := false, phase := .contention 1 false } ∧
      (∀ k, 1 ≤ k → k ≤ 32 → (ownsSlot t k = true ↔ s.station.number.val = k - 1)) ∧
      (¬WaitsForL s → t = s.setLau t.lau)

/-- The start of slot k: a slot of another station, of no station while L is UNKNOWN, or of this station with nothing
to send passes idle; in an own slot JOIN, LEAVE or a due PRESENCE begins as the scheduler picks it (R5, R6, R11, R21,
R29). That the received-frame buffer keeps its bytes while this station sends: log 31. -/
def Obligations.SlotStartPassesOrSendsStationFrame : Prop :=
  ∀ (s : State) (k : Nat), NextSlot s k →
    ((s.lau.last = none ∨ (∃ l, s.lau.last = some l ∧ (l.val + k) % 32 ≠ s.station.number.val) ∨
        (s.station.mode ≠ .joining ∧ s.station.mode ≠ .online ∧ s.station.mode ≠ .withdrawing) ∨
        (s.station.mode = .joining ∧ s.station.joinReady = false) ∨
        (s.station.mode = .withdrawing ∧ s.station.leaveReady = false ∧ ∀ i, ¬PlaceReady s i) ∨
        (s.station.mode = .online ∧ s.station.presenceDue = false ∧ ∀ i, ¬PlaceReady s i) →
      exec .slotStart s = .next (s.setLau { s.lau with phase := .contention k true }))) ∧
    (∀ l, s.lau.last = some l → (l.val + k) % 32 = s.station.number.val →
      ∀ payload, payload = [byteOf s.station.conf.presenceInterval, byteOf s.openCount, byteOf s.freeSlots, 0#8] →
        (s.station.mode = .joining → s.station.joinReady = true →
          exec .slotStart s = .next (s.sends .station
            { kind := .join, dir := false, tgl := false, src := s.station.number, dst := 0, xch := 0,
              payload := payload })) ∧
        (s.station.mode = .withdrawing → s.station.leaveReady = true →
          exec .slotStart s = .next (s.sends .station
            { kind := .leave, dir := false, tgl := false, src := s.station.number, dst := 0, xch := 0,
              payload := [] })) ∧
        (s.station.mode = .online → s.station.presenceDue = true → (∀ i, ¬PlaceReady s i) →
          exec .slotStart s = .next (s.sends .station
            { kind := .presence, dir := false, tgl := false, src := s.station.number, dst := 0, xch := 0,
              payload := payload })))

/-- In an own slot the channel or context that comes next in the round-robin order sends the frame its state offers;
the pointer moves to it, its ask-in-flight flag is set, the ask is recorded, and nothing else changes (R11, R16, R21,
R26, R30, R94, R103, R140). That the received-frame buffer keeps its bytes while this station sends: log 31. -/
def Obligations.OwnSlotSendsExchangeFrame : Prop :=
  ∀ (s : State) (k : Nat) (l : StationNo) (i : Fin 12), NextSlot s k → s.lau.last = some l →
    (l.val + k) % 32 = s.station.number.val →
    (s.station.mode = .online ∨ (s.station.mode = .withdrawing ∧ s.station.leaveReady = false)) → Serves s i →
    (∀ c : ChannelNo, i.val = c.val → ∀ f : Frame, f.dir = false → f.src = s.station.number →
      f.dst = (s.channel c).desc.peer → f.xch = c →
      ((s.channel c).state = .request ∧ f.kind = .request ∧ f.tgl = false ∧
          (((s.channel c).desc.op ≠ .list ∧ f.payload =
            [byteOf (s.channel c).desc.op.code, byteOf (s.channel c).desc.windowId, byteOf (s.channel c).desc.sizeCode,
              0#8] ++ wordBytes (s.channel c).desc.remoteOffset ++ wordBytes (s.channel c).desc.total) ∨
           ((s.channel c).desc.op = .list ∧ f.payload =
            [3#8, 0#8, byteOf (s.channel c).desc.sizeCode, 0#8, 0#8, 0#8] ++ wordBytes (s.channel c).desc.total)) ∨
        (s.channel c).state = .data ∧ f.kind = .data ∧ f.tgl = (s.channel c).heldFrame.tgl ∧
          f.payload = (s.channel c).heldFrame.payload ∨
        (s.channel c).state = .close ∧ f.kind = .close ∧ f.tgl = false ∧ f.payload = [] ∨
        (s.channel c).state = .aborting ∧ f.kind = .abort ∧ f.tgl = false ∧ f.payload = []) →
      exec .slotStart s = .next
        (((s.setLau { s.lau with pointer := i }).sends (.channel c) f).setChannel c
          { s.channel c with askInFlight := true })) ∧
    (∀ j : SlotNo, i.val = 8 + j.val →
      exec .slotStart s = .next
        (((s.setLau { s.lau with pointer := i }).sends (.context j)
          { kind := .data, dir := true, tgl := (s.context j).heldFrame.tgl, src := s.station.number,
            dst := (s.context j).initiator, xch := (s.context j).xch, payload := (s.context j).heldFrame.payload }).setContext j
          { s.context j with askInFlight := true }))

/-! ### The reply gap -/

/-- The LAU when a reply gap closes (R8). -/
def Sys2Proof.Machine.gapClosed (s : State) : State := s.setLau { s.lau with phase := .quiet, ask := none, answer := none }

/-- The reply gap: at its 8th bit-time a handed answer begins on an idle line and is discarded on a busy one; when it
closes, a source below its limit counts one attempt and keeps its frame, and what is pending on a channel is applied; a
context that has ended discards the outcome (R8, R9, R16, R18, R103, R104, R125, R154, R156). An answer still handed at
the close is dropped (log 27). That the received-frame buffer keeps its bytes while this station sends: log 31. -/
def Obligations.ReplyGap : Prop :=
  ∀ s : State,
    (∀ f, s.lau.phase = .replyGap → s.lau.answer = some f → (s.station.mode = .online ∨ s.station.mode = .withdrawing) →
      exec .replyGapAnswer s = .next (s.setLau { s.lau with
        phase := .transmitting { frame := f, source := none, recoveryRound := false, jam := false },
        answer := none })) ∧
    (s.lau.phase ≠ .replyGap → exec .replyGapAnswer s = .next (s.setLau { s.lau with answer := none })) ∧
    (s.lau.phase = .replyGap → s.lau.ask = none → exec .replyGapClose s = .next (gapClosed s)) ∧
    (∀ a, s.lau.phase = .replyGap → s.lau.ask = some a →
      (∀ c ch, a.source = .channel c →
        ch = { s.channel c with askInFlight := false, attempts := (s.channel c).attempts + 1 } →
        (s.channel c).attempts + 1 < 1 + s.station.conf.retryLimit → (ch.state.phase ≠ none ∨ ch.state = .aborting) →
        (ch.endPending = none → ch.holdPending = false →
          exec .replyGapClose s = .next ((gapClosed s).setChannel c ch)) ∧
        (∀ r, ch.endPending = some r →
          ∃ t, exec .replyGapClose s = .next t ∧ ChannelEnds c r 0 ((gapClosed s).setChannel c ch) t) ∧
        (∀ p, ch.endPending = none → ch.holdPending = true → ch.state.phase = some p →
          ∃ t, exec .replyGapClose s = .next t ∧ ChannelHeld c p ((gapClosed s).setChannel c ch) t)) ∧
      (∀ k, a.source = .context k → (s.context k).askInFlight = true →
        (s.context k).attempts + 1 < 1 + s.station.conf.retryLimit →
          exec .replyGapClose s = .next ((gapClosed s).setContext k
            { s.context k with askInFlight := false, attempts := (s.context k).attempts + 1 })) ∧
      (∀ k, a.source = .context k → (s.context k).askInFlight = false →
        exec .replyGapClose s = .next (gapClosed s)))

/-- The condition an unanswered frame of a channel ends with at the limit (R105, R109, R117, R133). -/
def Sys2Proof.Machine.exhaustedCondition (ch : Channel) : Condition :=
  if ch.state = .close ∧ ch.timeoutMark = true then .dataTimeout
  else if ch.state = .aborting then ch.abortReason.condition else .retryExhausted

/-- The gap that closes on the last attempt, 1 + RETRY_LIMIT, ends the channel or the context; the rows that name the
limit are that event (R18, R103, R105, R109, R117, R133, R154; the rows as that event, and their effect on a source
that stands at the limit: log 11). That this end stands, and drops a pending WITHDRAWN: log 33. -/
def Obligations.LastAttemptEnds : Prop :=
  ∀ s : State,
    (∀ a c ch i, s.lau.phase = .replyGap → s.lau.ask = some a → a.source = .channel c →
      ch = { s.channel c with askInFlight := false, attempts := (s.channel c).attempts + 1 } →
      1 + s.station.conf.retryLimit ≤ ch.attempts → (ch.state.phase ≠ none ∨ ch.state = .aborting) →
      (i = .replyGapClose ∨ i = .retryExhausted c) → exhaustedCondition ch ≠ .noError →
      ∃ t, exec i s = .next t ∧ ChannelEnds c (exhaustedCondition ch) 0 ((gapClosed s).setChannel c ch) t) ∧
    (∀ a k x i, s.lau.phase = .replyGap → s.lau.ask = some a → a.source = .context k → (s.context k).askInFlight = true →
      x = { s.context k with askInFlight := false, attempts := (s.context k).attempts + 1 } →
      1 + s.station.conf.retryLimit ≤ x.attempts → (i = .replyGapClose ∨ i = .contextRetryExhausted k) →
      ∃ t, exec i s = .next t ∧ ContextEnds k .retryExhausted ((gapClosed s).setContext k x) t) ∧
    (∀ c, s.lau.phase ≠ .replyGap → (s.channel c).askInFlight = false →
      1 + s.station.conf.retryLimit ≤ (s.channel c).attempts →
      ((s.channel c).state.phase ≠ none ∨ (s.channel c).state = .aborting) → exhaustedCondition (s.channel c) ≠ .noError →
      ∃ t, exec (.retryExhausted c) s = .next t ∧ ChannelEnds c (exhaustedCondition (s.channel c)) 0 s t) ∧
    (∀ k, s.lau.phase ≠ .replyGap → (s.context k).askInFlight = false → (s.context k).state = .sending →
      1 + s.station.conf.retryLimit ≤ (s.context k).attempts →
      ∃ t, exec (.contextRetryExhausted k) s = .next t ∧ ContextEnds k .retryExhausted s t)

/-! ### Own transmissions -/

/-- The LAU after an own frame without collision: L with the recovery flag clear, the clash count 0 (R13, R19). -/
def Sys2Proof.Machine.ownFrameSent (s : State) (phase : Phase) (l : StationNo) : State :=
  { s with
    pins := { s.pins with lineActive := false },
    lau := { s.lau with phase := phase, last := some l, recovery := false, clash := 0 } }

/-- The last bit of an own frame sent without collision, with no withdrawal pending: an answer, an addressed asking
frame, JOIN, PRESENCE, LEAVE (R7, R9, R13, R16, R19, R52, R55, R56, R61, R70, R71). -/
def Obligations.TransmissionEnds : Prop :=
  ∀ (s : State) (x : Transmission), s.lau.phase = .transmitting x → x.jam = false → s.station.withdrawPending = false →
    (x.source = none → exec .transmissionEnd s = .next (ownFrameSent s .quiet x.frame.dst)) ∧
    (∀ src, x.source = some src →
      (x.frame.kind.addressedAsk = true → s.station.mode = .online →
        exec .transmissionEnd s = .next (((ownFrameSent s .replyGap x.frame.src).setPeers
          { s.peers with presenceTimer := some (10 * s.station.conf.presenceInterval) }).setStation
          { s.station with presenceDue := false })) ∧
      (x.frame.kind.addressedAsk = true → s.station.mode ≠ .online →
        exec .transmissionEnd s = .next (ownFrameSent s .replyGap x.frame.src)) ∧
      (x.frame.kind = .presence → s.station.mode = .online →
        exec .transmissionEnd s = .next ((((ownFrameSent s .quiet x.frame.src).setAsk none).setPeers
          { s.peers with presenceTimer := some (10 * s.station.conf.presenceInterval) }).setStation
          { s.station with presenceDue := false })) ∧
      (x.frame.kind = .join → ∃ t, exec .transmissionEnd s = .next t ∧
        t.station = { s.station with mode := .online, joinReady := false, presenceDue := false } ∧
        t.peers.presenceTimer = some (10 * s.station.conf.presenceInterval) ∧
        (∀ p, t.peer p = if p = s.station.number then { s.peer p with joinCount := (s.peer p).joinCount + 1 }
          else s.peer p) ∧
        t = ((((ownFrameSent s .quiet x.frame.src).setAsk none).setPeers t.peers).setStation t.station).setPort
          { s.port with notices := { s.port.notices with stateChange := true } }) ∧
      (x.frame.kind = .leave → ∃ t, exec .transmissionEnd s = .next t ∧
        t.station = s.station.silentIn .withdrawn ∧ PeersCleared s t ∧
        t.lau = { s.lau with
          phase := .silent, ask := none, answer := none, last := some x.frame.src, recovery := false, clash := 0 } ∧
        t = ((((ownFrameSent s .silent x.frame.src).setLau t.lau).setPeers t.peers).setStation t.station).setPort
          { s.port with
            notices := { s.port.notices with
              stateChange := true, peerChange := s.port.notices.peerChange || s.anyPresent } }))

/-- The LAU at a readback mismatch: the jam, L 31 with the recovery flag, no ask in flight (R13, R14). -/
def Sys2Proof.Machine.collided (s : State) (x : Transmission) : State :=
  s.setLau { s.lau with phase := .transmitting { x with jam := true }, last := some 31, recovery := true, ask := none }

/-- A collision jams, sets L to 31 with the recovery flag, and gives its source COLLIDED: no attempt, the frame kept. It
counts as a possible clash for an answer and for an asking frame of a recovery round; the third counted one is a clash
report, and CLASH_COUNT_LIMIT is that event. After the jam the LAU receives what remains, or times a settle gap (R14,
R16, R18, R19, R57; the third count in the collision's own event, and its row: log 10; that the received-frame buffer
keeps its bytes while what remains is received: log 29). -/
def Obligations.CollisionAndJam : Prop :=
  ∀ (s : State) (x : Transmission), s.lau.phase = .transmitting x →
    (x.jam = false →
      ∀ u, ((s.lau.ask = none ∧ u = collided s x) ∨
          (∃ a, s.lau.ask = some a ∧ a.source = .station ∧ u = collided s x) ∨
          (∃ a c, s.lau.ask = some a ∧ a.source = .channel c ∧ (s.channel c).endPending = none ∧
            (s.channel c).holdPending = false ∧
            u = (collided s x).setChannel c { s.channel c with askInFlight := false }) ∨
          (∃ a k, s.lau.ask = some a ∧ a.source = .context k ∧ (s.context k).askInFlight = true ∧
            u = (collided s x).setContext k { s.context k with askInFlight := false })) →
        (x.source ≠ none ∧ x.recoveryRound = false → exec .collision s = .next u) ∧
        (x.source = none ∨ x.recoveryRound = true →
          (s.lau.clash < 2 → exec .collision s = .next (u.setLau { u.lau with clash := s.lau.clash + 1 })) ∧
          (s.lau.clash = 2 → s.station.mode.onLine = true → ∀ i, i = .collision ∨ i = .clashCountLimit →
            ∃ t, exec i s = .next t ∧ EntersClash (u.setLau { u.lau with clash := 3 }) t))) ∧
    (x.jam = true → s.station.withdrawPending = false →
      exec (.jamEnd true) s = .next { s with
        lau := { s.lau with phase := .receiving }, pins := { s.pins with lineActive := true } } ∧
      exec (.jamEnd false) s = .next { s with
        lau := { s.lau with phase := .quiet }, pins := { s.pins with lineActive := false } })

/-- A pending withdrawal takes effect when the own transmission ends, in the state that end reaches: WITHDRAWING from
ONLINE, WITHDRAWN from JOINING (R54). -/
def Obligations.PendingWithdrawal : Prop :=
  ∀ (s u : State) (x : Transmission) (i : Instr), s.lau.phase = .transmitting x → s.station.withdrawPending = true →
    ((i = .transmissionEnd ∧ x.jam = false) ∨ ((i = .jamEnd true ∨ i = .jamEnd false) ∧ x.jam = true)) →
    exec i (s.setStation { s.station with withdrawPending := false }) = .next u →
    (u.station.mode = .online → ∃ t, exec i s = .next t ∧ EntersWithdrawing u t) ∧
    (u.station.mode = .joining → ∃ t, exec i s = .next t ∧ EntersWithdrawn u t) ∧
    (u.station.mode ≠ .online → u.station.mode ≠ .joining → exec i s = .next u)

/-! ### Frames from the line -/

/-- Every valid frame, sent bit by bit as R23 to R25 give, passes the Frame Checker as that frame. -/
def Obligations.FrameCheckReadsWhatIsSent : Prop :=
  ∀ f : Frame, f.valid = true → checkActivity f.activity = .valid f

/-- Corrupted or malformed activity sets L to 31 with the recovery flag, refreshes no peer, reaches no owner, and is
followed by a settle gap (R7, R13, R35, R36). That the received-frame buffer fills behind a start delimiter whatever
the preamble before it: log 32. -/
def Obligations.CorruptedFrame : Prop :=
  ∀ (s : State) (a : Activity), Hears s → (Instr.corruptedFrame a).wellFormed = true → s.lau.ask = none → ¬WaitsForL s →
    exec (.corruptedFrame a) s = .next { s with
      pins := { s.pins with lineActive := false }, rx := bufferedBytes a,
      lau := { s.lau with phase := .quiet, last := some 31, recovery := true, answer := none } }

/-- Every valid frame of another station that the receiver takes leaves L at its SRC, or at the DST of an answer, the
recovery flag clear, a reply gap after an addressed asking frame and QUIET after the rest, and no ask in flight; the
clash count and the pointer stay. A frame whose start was not seen, or that the receiver does not hear, changes only
what is on the line (R5, R6, R7, R13, R16, R37). -/
def Obligations.ReceivedFramesAtLau : Prop :=
  ∀ (s : State) (i : Instr) (f : Frame), receivedFrame s.station.number i = some f →
    (Hears s → f.valid = true → f.src ≠ s.station.number →
      ∃ t, exec i s = .next t ∧ t.pins = { s.pins with lineActive := false } ∧ t.rx = f.bytes ∧
        t.lau.last = some (if f.kind.answer then f.dst else f.src) ∧ t.lau.recovery = false ∧
        t.lau.phase = (if f.kind.addressedAsk then .replyGap else .quiet) ∧ t.lau.ask = none ∧
        t.lau.clash = s.lau.clash ∧ t.lau.pointer = s.lau.pointer) ∧
    (¬Hears s → exec i s = .next { s with pins := { s.pins with lineActive := false } })

/-- A valid frame with this station's own number as SRC is a clash report and nothing else (R6, R20, R37, R57). -/
def Obligations.OwnNumberIsClash : Prop :=
  ∀ (s : State) (i : Instr) (f : Frame), receivedFrame s.station.number i = some f → Hears s → f.valid = true →
    f.src = s.station.number → s.station.mode.onLine = true →
    ∃ t, exec i s = .next t ∧
      EntersClash { s with pins := { s.pins with lineActive := false }, rx := f.bytes } t

/-- What ends in the reply gap of an own ask and does not answer it ends that ask NO_ANSWER, as the close of the gap
does, and is then taken as with no ask in flight (R8, R17, R36; that the ask ends before the frame is dispatched: log
12). -/
def Obligations.UnansweredAskEnds : Prop :=
  ∀ (s u : State) (i : Instr), Hears s →
    exec .replyGapClose (s.setPhase .replyGap) = .next u →
    ((∃ a, i = .corruptedFrame a ∧ i.wellFormed = true) ∨
      (∃ f, receivedFrame s.station.number i = some f ∧ f.valid = true ∧ f.src ≠ s.station.number ∧
        ∀ a, s.lau.ask = some a →
          ¬(a.kind.addressedAsk = true ∧ f.kind.answer = true ∧ f.dst = s.station.number ∧ f.src = a.dst ∧
            f.xch = a.xch))) →
    exec i s = exec i (u.setPhase s.lau.phase)

/-! ### Peers -/

/-- The station takes a frame of another station from the line, with no ask of its own in flight (R5, R6, R37); a
station that waits for L would besides enter JOINING (R51). -/
def Sys2Proof.Machine.Takes (s : State) (src : StationNo) : Prop :=
  Hears s ∧ s.lau.ask = none ∧ ¬WaitsForL s ∧ src ≠ s.station.number

/-- The entry of a station as its JOIN or PRESENCE leaves it, the join count aside (R63). -/
def Sys2Proof.Machine.announcedEntry (s : State) (src : StationNo) (p : Announcement) : Peer :=
  let announced := if p.interval = 0#8 then (s.peer src).announced else some p.interval.toNat
  { s.peer src with
    state := .present, announced := announced, expiry := some (30 * announced.getD s.station.conf.presenceInterval),
    openWindows := min p.openWindows.toNat 8, freeContexts := min p.freeContexts.toNat 4 }

/-- A JOIN's or PRESENCE's frame (R29). -/
def Sys2Proof.Machine.announcementFrame (kind : FrameKind) (src : StationNo) (p : Announcement) : Frame :=
  { kind := kind, dir := false, tgl := false, src := src, dst := 0, xch := 0,
    payload := [p.interval, p.openWindows, p.freeContexts, p.zero] }

/-- A LEAVE's frame. -/
def Sys2Proof.Machine.leaveFrame (src : StationNo) : Frame :=
  { kind := .leave, dir := false, tgl := false, src := src, dst := 0, xch := 0, payload := [] }

/-- PRESENCE of a PRESENT or an ABSENT station, the JOIN of an ABSENT one and its LEAVE change that station's entry, the
line's state and, for a return, PEER_CHANGE, and nothing else. A valid asking frame for another station, or one for this
station outside ONLINE and WITHDRAWING, and an answer that matches no ask have no owner: only their sender is refreshed
(R37 to R39, R62 to R66, R69). -/
def Obligations.FramesToThePeerTable : Prop :=
  (∀ (s : State) (src : StationNo) (p : Announcement), Takes s src →
    ((s.peer src).state = .present →
      exec (.presenceReceived src p) s = .next
        ((s.afterFrame (announcementFrame .presence src p)).setPeer src (announcedEntry s src p))) ∧
    ((s.peer src).state = .absent →
      exec (.presenceReceived src p) s = .next (raisePeerChange
        ((s.afterFrame (announcementFrame .presence src p)).setPeer src (announcedEntry s src p))) ∧
      exec (.joinFrameReceived src p) s = .next (raisePeerChange
        ((s.afterFrame (announcementFrame .join src p)).setPeer src
          { announcedEntry s src p with joinCount := min ((s.peer src).joinCount + 1) 255 })) ∧
      exec (.leaveReceived src) s = .next (s.afterFrame (leaveFrame src)))) ∧
  (∀ (s : State) (i : Instr) (f : Frame), receivedFrame s.station.number i = some f → f.valid = true →
    Takes s f.src →
    ((f.kind.addressedAsk = true ∧
        (f.dst ≠ s.station.number ∨ (s.station.mode ≠ .online ∧ s.station.mode ≠ .withdrawing))) ∨
      f.kind.answer = true) →
    exec i s = .next (s.heard f))

/-- A PRESENT station that lapses, leaves or restarts: its entry changes, and both engines and PEER_CHANGE follow
(R48, R64, R66, R67, R68, R69, R121, R166). PEER_EXPIRY acts on a timer counted to its end: log 4. -/
def Obligations.PeerEvents : Prop :=
  ∀ (s : State) (p : StationNo), (s.peer p).state = .present →
    ((s.peer p).expiry = some 0 →
      ∃ t, exec (.peerExpiry p) s = .next t ∧
        PeerEventTaken p .peerLost (s.setPeer p { s.peer p with state := .absent, expiry := none }) t) ∧
    (Takes s p →
      (∃ t, exec (.leaveReceived p) s = .next t ∧
        PeerEventTaken p .peerLeft
          ((s.afterFrame (leaveFrame p)).setPeer p { s.peer p with state := .absent, expiry := none }) t) ∧
      ∀ a, ∃ t, exec (.joinFrameReceived p a) s = .next t ∧
        PeerEventTaken p .peerRestarted
          ((s.afterFrame (announcementFrame .join p a)).setPeer p
            { announcedEntry s p a with joinCount := min ((s.peer p).joinCount + 1) 255 }) t)

/-! ### Checks in order -/

/-- The first of some checks that fails gives this outcome. -/
def Sys2Proof.Machine.FirstFails {α : Type} : List (Prop × α) → α → Prop
  | [], _ => False
  | (check, outcome) :: rest, r => (¬check ∧ r = outcome) ∨ (check ∧ FirstFails rest r)

/-- Every one of some checks passes. -/
def Sys2Proof.Machine.AllPass {α : Type} (checks : List (Prop × α)) : Prop := ∀ c ∈ checks, c.1

/-! ### The Responder Engine -/

/-- Slot k holds the identity of an exchange (R140). -/
def Sys2Proof.Machine.HoldsExchange (s : State) (k : SlotNo) (p : StationNo) (x : ChannelNo) : Prop :=
  (s.context k).state ≠ .free ∧ (s.context k).initiator = p ∧ (s.context k).xch = x

/-- The match of a REQUEST, and the slot it empties (R145). -/
def Sys2Proof.Machine.RequestMatches (p : StationNo) (x : ChannelNo) (emptied : Option SlotNo) (s u : State) : Prop :=
  (emptied = none ∧ (∀ k, ¬HoldsExchange s k p x) ∧ u = s) ∨
    ∃ k, emptied = some k ∧ HoldsExchange s k p x ∧
      (((s.context k).state = .lingering ∧ ContextFreed k s u) ∨
        ((s.context k).state ≠ .lingering ∧ ContextEnds k .superseded s u))

/-- A REQUEST's frame (R30). -/
def Sys2Proof.Machine.requestOf (src dst : StationNo) (xch : ChannelNo) (q : RequestBody) : Frame :=
  { kind := .request, dir := false, tgl := false, src := src, dst := dst, xch := xch,
    payload := [q.op, q.windowId, q.sizeCode, q.zero] ++ wordBytes q.offset.toNat ++ wordBytes q.total.toNat }

/-- The window a REQUEST names. -/
def Sys2Proof.Machine.windowOf (q : RequestBody) : Fin 8 := Fin.ofNat 8 q.windowId.toNat

/-- Two ranges of a window share no byte; an empty range meets none (R148). -/
def Sys2Proof.Machine.RangesApart (off₁ total₁ off₂ total₂ : Nat) : Prop :=
  total₁ = 0 ∨ total₂ = 0 ∨ off₁ + total₁ ≤ off₂ ∨ off₂ + total₂ ≤ off₁

/-- The checks of a REQUEST in their order, each with its refuse reason (R32, R146, R148). -/
def Sys2Proof.Machine.requestChecks (s : State) (p : StationNo) (q : RequestBody) : List (Prop × Byte) :=
  let w := s.window (windowOf q)
  [(s.station.mode ≠ .withdrawing, 8#8),
   (1 ≤ q.op.toNat ∧ q.op.toNat ≤ 3 ∧ q.sizeCode.toNat ≤ 4 ∧ q.windowId.toNat ≤ 7 ∧ q.total.toNat ≤ 32768, 7#8),
   ((∃ k, (s.context k).state = .free) ∨ s.ctxs.linger ≠ [], 1#8),
   (q.op = 3#8 ∨ w.isOpen = true, 3#8),
   (q.op = 3#8 ∨ w.mask.getLsbD p.val = true, 4#8),
   (q.op ≠ 1#8 ∨ w.access = .readWrite, 5#8),
   (q.op = 3#8 ∨ q.offset.toNat + q.total.toNat ≤ 256 * 2 ^ w.sizeCode, 6#8),
   (q.op = 3#8 ∨ ∀ k, (s.context k).state.active = true → (s.context k).op ≠ .list →
      (s.context k).windowId = windowOf q → ((s.context k).op = .put ∨ q.op = 1#8) →
      RangesApart q.offset.toNat q.total.toNat (s.context k).offset (s.context k).total, 2#8)]

/-- A REQUEST to this station first empties the slot that holds its identity; then the first check that fails gives the
REFUSE, with XCH of the REQUEST and DIR 1, and changes nothing more (R32, R38, R145, R146, R148). -/
def Obligations.RequestRefused : Prop :=
  ∀ (s : State) (src dst : StationNo) (xch : ChannelNo) (q : RequestBody) (f : Frame),
    f = requestOf src dst xch q → Takes s src → dst = s.station.number →
    (s.station.mode = .online ∨ s.station.mode = .withdrawing) →
    ∃ emptied u, RequestMatches src xch emptied (s.heard f) u ∧
      ∀ reason, FirstFails (requestChecks u src q) reason →
        exec (.requestReceived src dst xch q) s = .next (u.setAnswer (some (answerTo s f .refuse false [reason])))

/-- The slot that an accepted REQUEST takes: the one its match emptied, the lowest FREE one, or the head of the linger
order, which is reclaimed (R147). -/
def Sys2Proof.Machine.SlotTaken (emptied : Option SlotNo) (k : SlotNo) (u v : State) : Prop :=
  (emptied = some k ∧ v = u) ∨
    (emptied = none ∧ (u.context k).state = .free ∧ (∀ j, j < k → (u.context j).state ≠ .free) ∧ v = u) ∨
    (emptied = none ∧ (∀ j, (u.context j).state ≠ .free) ∧ u.ctxs.linger.head? = some k ∧ ContextFreed k u v)

/-- The directory records of the windows open to a station, in ascending id (R34, R87). -/
def Sys2Proof.Machine.openRecords (s : State) (p : StationNo) : List Byte :=
  (allWindows.filter fun w => (s.window w).isOpen && (s.window w).mask.getLsbD p.val).flatMap fun w =>
    [byteOf w.val, byteOf (s.window w).access.code, byteOf (s.window w).sizeCode, 0#8] ++
      wordBytes (s.window w).valid ++ [0#8, 0#8]

/-- Context k, with the record `x` given it, builds its next DATA: from its snapshot, empty, or by a claim (R153). -/
def Sys2Proof.Machine.BuildsData (k : SlotNo) (x : Context) (v t : State) : Prop :=
  let n := min (16 * 2 ^ x.sizeCode) (x.amount - x.moved)
  let framed (bytes : List Byte) : Context :=
    { x with
      heldFrame := { payload := bytes, tgl := x.toggle }, built := true, attempts := 0,
      finalMark := decide (x.moved + bytes.length = x.amount ∧
        (bytes.length < 16 * 2 ^ x.sizeCode ∨ x.amount = x.total)) }
  if x.op = .list then t = v.setContext k (framed ((x.snapshot.drop x.moved).take n))
  else if n = 0 then t = v.setContext k (framed [])
  else
    let w := v.setContext k { x with built := false, attempts := 0, finalMark := false }
    t = w.setCtxs { w.ctxs with
      claims := v.ctxs.claims ++
        [{ slot := k, address := (v.window x.windowId).base + x.offset + x.moved, length := n }] }

/-- The record of an accepted REQUEST before its first DATA (R149; the fields that R149 does not name: log 19). -/
def Sys2Proof.Machine.acceptedRecord (v : State) (p : StationNo) (xch : ChannelNo) (q : RequestBody) : Context :=
  let snapshot := if q.op = 3#8 then openRecords v p else []
  { state := if q.total = 0#16 then .drained else if q.op = 1#8 then .receiving else .sending,
    initiator := p, xch := xch, op := if q.op = 1#8 then .put else if q.op = 2#8 then .get else .list,
    windowId := windowOf q, offset := q.offset.toNat, total := q.total.toNat, sizeCode := q.sizeCode.toNat,
    amount :=
      if q.op = 2#8 then min q.total.toNat ((v.window (windowOf q)).valid - q.offset.toNat)
      else if q.op = 3#8 then min q.total.toNat snapshot.length else 0,
    moved := 0, toggle := false, heldFrame := { payload := [], tgl := false }, built := false, finalMark := false,
    attempts := 0, askInFlight := false, pauseTimer := none, idleTimer := some (100 * v.station.conf.idleLimit),
    result := none, stored := none, snapshot := snapshot }

/-- A REQUEST that passes every check is accepted into a slot in its arrival, a GET or LIST builds its first DATA, and
ACCEPT is handed to the LAU (R38, R85, R87, R140, R145 to R149, R153; fields R149 does not name: log 19). -/
def Obligations.RequestAccepted : Prop :=
  ∀ (s : State) (src dst : StationNo) (xch : ChannelNo) (q : RequestBody) (f : Frame),
    f = requestOf src dst xch q → Takes s src → dst = s.station.number → s.station.mode = .online → SlotLaw s →
    ∃ emptied u, RequestMatches src xch emptied (s.heard f) u ∧
      (AllPass (requestChecks u src q) →
        ∃ k v t, SlotTaken emptied k u v ∧
          ((q.op = 1#8 ∨ q.total = 0#16) ∧ t = v.setContext k (acceptedRecord v src xch q) ∨
            (q.op ≠ 1#8 ∧ q.total ≠ 0#16) ∧ BuildsData k (acceptedRecord v src xch q) v t) ∧
          exec (.requestReceived src dst xch q) s = .next (t.setAnswer (some (answerTo s f .accept false []))))

/-- The row of the claim that the arbiter serves next, before an engine's write, if one waits (R172, R173). -/
def Sys2Proof.Machine.claimBefore (who : Claimant) (s : State) : Option Instr :=
  let host := if s.port.claims = [] then none else some .hostClaimServed
  let channels := if s.chans.claims = [] then none else some .channelReadClaimServed
  let contexts := if s.ctxs.claims = [] then none else some .contextReadClaimServed
  match who, s.buffer.pointer with
  | .responders, .responders => host <|> channels
  | .responders, .host => channels
  | .channels, .channels => contexts <|> host
  | .channels, .responders => host
  | _, _ => none

/-- A burst stored from an address on, and every byte outside it kept; addresses wrap after 65,535 (R170). -/
def Sys2Proof.Machine.Stores (m n : List Host.Cell) (address : Nat) (bytes : List Byte) : Prop :=
  ∀ a, a < 65536 → memGet n a = bytes.getD ((a + 65536 - address % 65536) % 65536) (memGet m a)

/-- A new DATA of a PUT of the length needed is written to the window in one burst, the context moves on, and ACK is
handed to the LAU; claims that wait before the engine in the circle are served first, one step each (R144, R150, R173,
R174; that they are served within the arrival: log 13). A repeat is acknowledged, and only the idle timer restarts
(R152). Buffer memory is in its canonical form, which every step keeps (MemoryLawKept). -/
def Obligations.PutDataReceived : Prop :=
  ∀ (s : State) (src : StationNo) (xch : ChannelNo) (tgl : Bool) (payload : List Byte) (k : SlotNo) (x : Context) (f : Frame),
    f = { kind := .data, dir := false, tgl := tgl, src := src, dst := s.station.number, xch := xch, payload := payload } →
    Takes s src → s.station.mode = .online → SlotLaw s → MemoryLaw s → HoldsExchange s k src xch → x = s.context k →
    x.op = .put →
    payload.length ≤ 256 →
    (x.state = .receiving → tgl = x.toggle → payload ≠ [] →
        payload.length = min (16 * 2 ^ x.sizeCode) (x.total - x.moved) →
      (∀ c u, claimBefore .responders s = some c → exec c s = .next u →
        exec (.dataReceived src s.station.number xch tgl payload) s =
          exec (.dataReceived src s.station.number xch tgl payload) u) ∧
      (claimBefore .responders s = none →
        ∃ m, Stores s.buffer.cells m ((s.window x.windowId).base + x.offset + x.moved) payload ∧
          exec (.dataReceived src s.station.number xch tgl payload) s = .next
            ((((s.heard f).setBuffer { cells := m, pointer := .responders }).setContext k
              { x with
                moved := x.moved + payload.length, toggle := !x.toggle,
                idleTimer := some (100 * s.station.conf.idleLimit),
                state := if x.moved + payload.length = x.total then .drained else .receiving }).setAnswer
              (some (answerTo s f .ack tgl []))))) ∧
    (x.state = .receiving ∨ x.state = .drained → tgl ≠ x.toggle →
      exec (.dataReceived src s.station.number xch tgl payload) s = .next
        (((s.heard f).setContext k { x with idleTimer := some (100 * s.station.conf.idleLimit) }).setAnswer
          (some (answerTo s f .ack tgl []))))

/-- The payload of the REPORT an ended context stores (R33, R162). -/
def Sys2Proof.Machine.reportOf (u : State) (x : Context) (r : Result) : List Byte :=
  [byteOf r.code, 0#8] ++ wordBytes x.moved ++
    wordBytes (if x.op = .list then 0 else (u.window x.windowId).valid)

/-- DATA, CLOSE and ABORT with DIR 0: a DATA out of place ends its context BAD_DATA, a CLOSE ends it OK or CLOSED_EARLY,
an ABORT ends it ABORTED, each answered with the REPORT the end stores; a LINGERING context sends its stored REPORT
again; an identity that no slot holds is answered NO_EXCHANGE, and in WITHDRAWING all are answered WITHDRAWING (R38,
R84, R144, R150, R152, R157 to R159, R162). -/
def Obligations.ContextFrames : Prop :=
  ∀ (s : State) (i : Instr) (f : Frame), receivedFrame s.station.number i = some f → f.valid = true →
    Takes s f.src → f.dst = s.station.number →
    ((f.kind = .data ∧ f.dir = false) ∨ f.kind = .close ∨ f.kind = .abort) →
    (s.station.mode = .withdrawing →
      exec i s = .next ((s.heard f).setAnswer (some (answerTo s f .refuse false [8#8])))) ∧
    (s.station.mode = .online → (∀ k, ¬HoldsExchange s k f.src f.xch) →
      exec i s = .next ((s.heard f).setAnswer (some (answerTo s f .refuse false [9#8])))) ∧
    (s.station.mode = .online → SlotLaw s → ∀ k x, HoldsExchange s k f.src f.xch → x = s.context k →
      (∀ rep, x.state = .lingering → x.stored = some rep →
        exec i s = .next ((s.heard f).setAnswer (some (answerTo s f .report false
          ([byteOf rep.result.code, 0#8] ++ wordBytes rep.count ++ wordBytes rep.valid))))) ∧
      (∀ r, x.state ≠ .lingering →
        ((f.kind = .data ∧ r = .badData ∧ (x.op ≠ .put ∨ (f.tgl = x.toggle ∧ (x.state = .drained ∨
            (x.state = .receiving ∧ f.payload.length ≠ min (16 * 2 ^ x.sizeCode) (x.total - x.moved)))))) ∨
          (f.kind = .close ∧ r = .ok ∧ x.state = .drained) ∨
          (f.kind = .close ∧ r = .closedEarly ∧ (x.state = .receiving ∨ x.state = .sending)) ∨
          (f.kind = .abort ∧ r = .aborted)) →
        ∃ u, ContextEnds k r (s.heard f) u ∧
          exec i s = .next (u.setAnswer (some (answerTo s f .report false (reportOf u x r))))))

/-! ### The Channel Engine on the line -/

/-- The progress counter and whether it reaches its interval, as one more DATA counts (R119). -/
def Sys2Proof.Machine.progressOf (ch : Channel) : Nat × Bool :=
  if ch.desc.progress = 0 then (ch.progressCount, false)
  else if ch.progressCount + 1 = ch.desc.progress then (0, true) else (ch.progressCount + 1, false)

/-- CHANNEL_PROGRESS bit c set where a flag says so (R188). -/
def Sys2Proof.Machine.State.progressed (s : State) (c : ChannelNo) (reached : Bool) : State :=
  s.setPort { s.port with
    progress := if reached then s.port.progress ||| BitVec.twoPow 8 c.val else s.port.progress }

/-- A GET or LIST channel that has taken n new bytes (R112, R113, R115). -/
def Sys2Proof.Machine.Channel.received (ch : Channel) (n wait : Nat) : Channel :=
  let ch' := { ch with
    moved := ch.moved + n, remaining := ch.remaining - n, toggle := !ch.toggle, progressCount := (progressOf ch).1 }
  if ch.remaining - n = 0 ∨ n < 16 * 2 ^ ch.desc.sizeCode then
    { ch' with state := .close, attempts := 0, dataWait := none, built := false }
  else { ch' with dataWait := some wait }

/-- A DATA with DIR 1 to this station in ONLINE goes to the channel its XCH names, which answers by its state: REFUSE
(NO_EXCHANGE), WAIT, ACK of a repeat, an overrun, or new data written in one burst with its end of the data phase (R38,
R111 to R115, R119, R127, R132, R173, R174; claims served first within the arrival: log 13). In WITHDRAWING it is
refused. Buffer memory is in its canonical form, which every step keeps (MemoryLawKept). -/
def Obligations.ChannelData : Prop :=
  ∀ (s : State) (src : StationNo) (xch : ChannelNo) (tgl : Bool) (payload : List Byte) (f : Frame) (ch : Channel) (i : Instr),
    i = .channelDataReceived src xch tgl payload → payload.length ≤ 256 →
    f = { kind := .data, dir := true, tgl := tgl, src := src, dst := s.station.number, xch := xch, payload := payload } →
    Takes s src → MemoryLaw s → ch = s.channel xch →
    (s.station.mode = .withdrawing →
      exec i s = .next ((s.heard f).setAnswer (some (answerTo s f .refuse false [8#8])))) ∧
    (s.station.mode = .online →
      (src ≠ ch.desc.peer ∨ ch.desc.op = .put ∨ ch.state = .idle ∨ ch.state = .armed ∨ ch.state = .done ∨
          ch.state = .failed ∨ ch.state = .aborting ∨
          (tgl = ch.toggle ∧ (ch.state = .close ∨ (ch.state = .held ∧ ch.heldPhase = .close))) →
        exec i s = .next ((s.heard f).setAnswer (some (answerTo s f .refuse false [9#8])))) ∧
      (src = ch.desc.peer → ch.desc.op ≠ .put →
        (ch.state = .request ∨ (ch.state = .held ∧ ch.heldPhase = .request) ∨
            (tgl = ch.toggle ∧ ch.state = .held ∧ ch.heldPhase = .data) →
          exec i s = .next ((s.heard f).setAnswer (some (answerTo s f .wait false [])))) ∧
        (tgl ≠ ch.toggle ∧ (ch.state = .close ∨
            (ch.state = .held ∧ (ch.heldPhase = .data ∨ ch.heldPhase = .close))) →
          exec i s = .next ((s.heard f).setAnswer (some (answerTo s f .ack tgl [])))) ∧
        (tgl ≠ ch.toggle ∧ ch.state = .data →
          exec i s = .next (((s.heard f).setChannel xch
            { ch with dataWait := some (100 * s.station.conf.idleLimit) }).setAnswer
            (some (answerTo s f .ack tgl [])))) ∧
        (tgl = ch.toggle ∧ ch.state = .data →
          ((16 * 2 ^ ch.desc.sizeCode < payload.length ∨ ch.remaining < payload.length) →
            ∃ u, ChannelAborts xch .overrun (s.heard f) u ∧
              exec i s = .next (u.setAnswer (some (answerTo s f .ack tgl [])))) ∧
          (payload.length ≤ 16 * 2 ^ ch.desc.sizeCode → payload.length ≤ ch.remaining →
            (payload = [] →
              exec i s = .next ((((s.heard f).setChannel xch
                (ch.received 0 (100 * s.station.conf.idleLimit))).progressed xch (progressOf ch).2).setAnswer
                (some (answerTo s f .ack tgl [])))) ∧
            (payload ≠ [] → ∀ c u, claimBefore .channels s = some c → exec c s = .next u → exec i s = exec i u) ∧
            (payload ≠ [] → claimBefore .channels s = none →
              ∃ m, Stores s.buffer.cells m (ch.desc.localAddress + ch.moved) payload ∧
                exec i s = .next
                  (((((s.heard f).setBuffer { cells := m, pointer := .channels }).setChannel xch
                    (ch.received payload.length (100 * s.station.conf.idleLimit))).progressed xch
                    (progressOf ch).2).setAnswer (some (answerTo s f .ack tgl []))))))))

/-! ### Answers to own asks -/

/-- A valid answer frame arrives that matches the addressed ask in flight of a source (R17, R39). -/
structure Sys2Proof.Machine.AnswersAsk (s : State) (source : Source) (i : Instr) (f : Frame) (ans : Answer) : Prop where
  row : i = .answerReceived f.src f.dst f.xch f.dir ans
  frame : f = ans.frame f.dir f.src f.dst f.xch
  valid : f.valid = true
  hears : Hears s
  known : ¬WaitsForL s
  other : f.src ≠ s.station.number
  own : f.dst = s.station.number
  asked : ∃ a, s.lau.ask = some a ∧ a.source = source ∧ a.kind.addressedAsk = true ∧ f.src = a.dst ∧ f.xch = a.xch

/-- One attempt of a channel is counted: below 1 + RETRY_LIMIT the frame stays ready, at the limit the channel ends with
the condition given (R18, R103). -/
def Sys2Proof.Machine.CountsAttempt (c : ChannelNo) (ch : Channel) (cond : Condition) (s t : State) : Prop :=
  (ch.attempts + 1 < 1 + s.station.conf.retryLimit ∧ t = s.setChannel c { ch with attempts := ch.attempts + 1 }) ∨
    (1 + s.station.conf.retryLimit ≤ ch.attempts + 1 ∧
      ChannelEnds c cond 0 (s.setChannel c { ch with attempts := ch.attempts + 1 }) t)

/-- The channel as it takes its ask's outcome, with nothing pending: its ask is no longer in flight (R103). -/
def Sys2Proof.Machine.TakesOutcome (s : State) (c : ChannelNo) (ch : Channel) : Prop :=
  ch = { s.channel c with askInFlight := false } ∧ ch.endPending = none ∧ ch.holdPending = false

/-- The answers to a REQUEST, with nothing pending: ACCEPT by op and total, BUSY and CONFLICT with their pause, the other
REFUSEs, REPORT, and the kinds that count as no answer (R16, R18, R39, R103, R105, R106, R108, R115, R118). The attempt
count 0 of a channel that such an answer ends: log 28. -/
def Obligations.AnswerToRequest : Prop :=
  ∀ (s : State) (c : ChannelNo) (i : Instr) (f : Frame) (ans : Answer) (ch : Channel),
    AnswersAsk s (.channel c) i f ans → TakesOutcome s c ch → ch.state = .request →
    (ans = .accept →
      (ch.desc.total = 0 → exec i s = .next ((s.heard f).setChannel c
        { ch with state := .close, attempts := 0, dataWait := none, built := false })) ∧
      (ch.desc.total ≠ 0 → ch.desc.op = .put →
        ∃ t, exec i s = .next t ∧ ChannelClaims c ((s.heard f).setChannel c { ch with state := .data }) t) ∧
      (ch.desc.total ≠ 0 → ch.desc.op ≠ .put → exec i s = .next ((s.heard f).setChannel c
        { ch with state := .data, attempts := 0, toggle := false, dataWait := some (100 * s.station.conf.idleLimit) }))) ∧
    (∀ r, ans = .refuse r → (r = 1#8 ∨ r = 2#8) →
      (ch.attempts + 1 < 1 + s.station.conf.retryLimit →
        exec i s = .next ((s.heard f).setChannel c { ch with
          attempts := ch.attempts + 1, pauseTimer := some (10 * s.station.conf.presenceInterval) })) ∧
      (1 + s.station.conf.retryLimit ≤ ch.attempts + 1 →
        ∃ t, exec i s = .next t ∧
          ChannelEnds c .refused r ((s.heard f).setChannel c { ch with attempts := ch.attempts + 1 }) t)) ∧
    (∀ r, ans = .refuse r → r ≠ 1#8 → r ≠ 2#8 →
      ∃ t, exec i s = .next t ∧ ChannelEnds c .refused r ((s.heard f).setChannel c { ch with attempts := 0 }) t) ∧
    (∀ p, ans = .report p →
      ∃ t, exec i s = .next t ∧ ChannelEnds c .badReport 0 ((s.heard f).setChannel c { ch with attempts := 0 }) t) ∧
    ((∃ tgl, ans = .ack tgl) ∨ ans = .wait →
      ∃ t, exec i s = .next t ∧ CountsAttempt c ch .retryExhausted (s.heard f) t)

/-- The answers to a DATA of a PUT, with nothing pending: the ACK of the channel's toggle confirms its bytes, the rest end
the channel or count an attempt (R16, R18, R39, R103, R108, R109, R118, R119). The attempt count 0 of a channel that
such an answer ends: log 28. -/
def Obligations.AnswerToPutData : Prop :=
  ∀ (s : State) (c : ChannelNo) (i : Instr) (f : Frame) (ans : Answer) (ch : Channel),
    AnswersAsk s (.channel c) i f ans → TakesOutcome s c ch → ch.state = .data → ch.desc.op = .put →
    (∀ ch', ans = .ack ch.toggle →
        ch' = { ch with
          moved := ch.moved + ch.heldFrame.payload.length, remaining := ch.remaining - ch.heldFrame.payload.length,
          toggle := !ch.toggle, attempts := 0, progressCount := (progressOf ch).1 } →
      (ch'.remaining = 0 → exec i s = .next (((s.heard f).setChannel c
        { ch' with state := .close, dataWait := none, built := false }).progressed c (progressOf ch).2)) ∧
      (ch'.remaining ≠ 0 → ∃ t, exec i s = .next t ∧
        ChannelClaims c (((s.heard f).setChannel c ch').progressed c (progressOf ch).2) t)) ∧
    (ans = .ack (!ch.toggle) ∨ ans = .accept ∨ ans = .wait →
      ∃ t, exec i s = .next t ∧ CountsAttempt c ch .retryExhausted (s.heard f) t) ∧
    (∀ p, ans = .report p →
      (p.length = 6 → p.getD 0 0#8 ≠ 0#8 → ∃ t, exec i s = .next t ∧
        ChannelEnds c .remoteEnded (p.getD 0 0#8) ((s.heard f).setChannel c { ch with attempts := 0 }) t) ∧
      (p.length ≠ 6 ∨ p.getD 0 0#8 = 0#8 → ∃ t, exec i s = .next t ∧
        ChannelEnds c .badReport 0 ((s.heard f).setChannel c { ch with attempts := 0 }) t)) ∧
    (∀ r, ans = .refuse r → ∃ t, exec i s = .next t ∧
      ChannelEnds c .refused r ((s.heard f).setChannel c { ch with attempts := 0 }) t)

/-- The record of a channel that starts from its descriptor (R97). -/
def Sys2Proof.Machine.Channel.begun (ch : Channel) : Channel :=
  { ch with
    state := .request, moved := 0, remaining := ch.desc.total, toggle := false, attempts := 0, progressCount := 0,
    condition := .none, detail := 0, abortReason := .none, askInFlight := false, holdPending := false,
    endPending := none, timeoutMark := false, built := false, pauseTimer := none, dataWait := none,
    deadlineTimer := if ch.desc.deadline = 0 then none else some ch.desc.deadline }

/-- Channel c starts: its record, and its bits in CHANNEL_ENDED and CHANNEL_PROGRESS cleared (R97, R188). -/
def Sys2Proof.Machine.State.starts (s : State) (c : ChannelNo) (ch : Channel) : State :=
  (s.setChannel c ch.begun).setPort { s.port with
    ended := s.port.ended &&& ~~~ BitVec.twoPow 8 c.val, progress := s.port.progress &&& ~~~ BitVec.twoPow 8 c.val }

/-- A channel has ended DONE in `u`; its next channel is looked at in the same event (R99, R100). -/
def Sys2Proof.Machine.Chains (next : Option ChannelNo) (u t : State) : Prop :=
  match next with
  | none => t = u
  | some n =>
    if (u.channel n).state = .armed ∧ u.station.mode = .online then
      if (u.peer (u.channel n).desc.peer).state = .present then t = u.starts n (u.channel n)
      else ChannelEnds n .peerAbsent 0 u t
    else t = u

/-- The answers to a CLOSE, by the timeout mark and in the order of the checks of a REPORT, with the chain that a DONE
channel starts, and the answers to an ABORT, with nothing pending (R16, R18, R39, R99, R100, R103, R116 to R118, R133).
The attempt count 0 of a channel that such an answer ends: log 28. -/
def Obligations.AnswerToCloseAndAbort : Prop :=
  ∀ (s : State) (c : ChannelNo) (i : Instr) (f : Frame) (ans : Answer) (ch : Channel) (b : State),
    AnswersAsk s (.channel c) i f ans → TakesOutcome s c ch → b = (s.heard f).setChannel c { ch with attempts := 0 } →
    (ch.state = .close →
      (ch.timeoutMark = true → (∃ p, ans = .report p) ∨ (∃ r, ans = .refuse r) →
        ∃ t, exec i s = .next t ∧ ChannelEnds c .dataTimeout 0 b t) ∧
      (∀ p, ch.timeoutMark = false → ans = .report p →
        (∀ cond detail, FirstFails
            [(p.length = 6, (Condition.badReport, 0#8)), (p.getD 0 0#8 = 0#8, (.remoteEnded, p.getD 0 0#8)),
             ((word (p.getD 2 0#8) (p.getD 3 0#8)).toNat = (if ch.desc.op = .put then ch.desc.total else ch.moved),
               (.badReport, 0#8)),
             (ch.remaining = 0 ∨ ch.desc.shortOk = true, (.underrun, 0#8))] (cond, detail) →
          ∃ t, exec i s = .next t ∧ ChannelEnds c cond detail b t) ∧
        (p.length = 6 → p.getD 0 0#8 = 0#8 →
            (word (p.getD 2 0#8) (p.getD 3 0#8)).toNat = (if ch.desc.op = .put then ch.desc.total else ch.moved) →
            (ch.remaining = 0 ∨ ch.desc.shortOk = true) →
          ∃ u t, exec i s = .next t ∧ ChannelEnds c .noError 0 b u ∧ Chains ch.desc.next u t)) ∧
      (ch.timeoutMark = false → ans = .refuse 9#8 →
        ∃ t, exec i s = .next t ∧ ChannelEnds c .unconfirmed 0 b t) ∧
      (∀ r, ch.timeoutMark = false → ans = .refuse r → r ≠ 9#8 →
        ∃ t, exec i s = .next t ∧ ChannelEnds c .refused r b t) ∧
      (ans = .accept ∨ (∃ tgl, ans = .ack tgl) ∨ ans = .wait →
        ∃ t, exec i s = .next t ∧
          CountsAttempt c ch (if ch.timeoutMark then .dataTimeout else .retryExhausted) (s.heard f) t)) ∧
    (ch.state = .aborting → ch.abortReason ≠ .none →
      ((∃ p, ans = .report p) ∨ (∃ r, ans = .refuse r) →
        ∃ t, exec i s = .next t ∧ ChannelEnds c ch.abortReason.condition 0 b t) ∧
      (ans = .accept ∨ (∃ tgl, ans = .ack tgl) ∨ ans = .wait →
        ∃ t, exec i s = .next t ∧ CountsAttempt c ch ch.abortReason.condition (s.heard f) t))

/-- The answers to a context's DATA: the ACK of its TGL confirms the frame and builds the next or drains the context,
WAIT pauses it, a REFUSE ends it INITIATOR_GONE, the rest count an attempt; a context that has ended discards the
outcome (R16, R18, R39, R153 to R156, R162). Two points are the model's reading: that a REFUSE leaves the ended record
with attempt count 0 (log 28), and that the ACK of the other TGL, which counts as no answer, does not restart the idle
timer (log 30). -/
def Obligations.AnswerToContext : Prop :=
  ∀ (s : State) (k : SlotNo) (i : Instr) (f : Frame) (ans : Answer) (x : Context),
    AnswersAsk s (.context k) i f ans → x = { s.context k with askInFlight := false } →
    ((s.context k).askInFlight = false → exec i s = .next (s.heard f)) ∧
    ((s.context k).askInFlight = true →
      (∀ x', ans = .ack x.heldFrame.tgl →
          x' = { x with
            moved := x.moved + x.heldFrame.payload.length, toggle := !x.toggle, attempts := 0,
            idleTimer := some (100 * s.station.conf.idleLimit) } →
        (x.finalMark = true →
          exec i s = .next ((s.heard f).setContext k { x' with state := .drained, built := false })) ∧
        (x.finalMark = false → ∃ t, exec i s = .next t ∧ BuildsData k x' (s.heard f) t)) ∧
      (ans = .wait → exec i s = .next ((s.heard f).setContext k { x with
        attempts := 0, idleTimer := some (100 * s.station.conf.idleLimit),
        pauseTimer := some (10 * s.station.conf.presenceInterval) })) ∧
      (∀ r, ans = .refuse r → ∃ t, exec i s = .next t ∧
        ContextEnds k .initiatorGone ((s.heard f).setContext k { x with attempts := 0 }) t) ∧
      (ans = .ack (!x.heldFrame.tgl) ∨ ans = .accept ∨ (∃ p, ans = .report p) →
        (x.attempts + 1 < 1 + s.station.conf.retryLimit →
          exec i s = .next ((s.heard f).setContext k { x with attempts := x.attempts + 1 })) ∧
        (1 + s.station.conf.retryLimit ≤ x.attempts + 1 → ∃ t, exec i s = .next t ∧
          ContextEnds k .retryExhausted ((s.heard f).setContext k { x with attempts := x.attempts + 1 }) t)))

/-- What is pending on a channel is applied when its ask resolves: the outcome is taken first, as with nothing pending;
if it has not ended the channel, a pending end ends it with its reason, and with none a pending hold holds it in the
phase reached (R103, R104, R125, R131). A collision that counts as a possible clash is such an outcome too; with the
third counted one the clash report follows it in the same event, and ends what is left (R19, R57, R123; log 10). That
an outcome which itself ends the channel drops a pending WITHDRAWN, as R104 says of every pending end, where the prose
of R122 excepts REPORT(OK) alone: log 33. -/
def Obligations.PendingAfterOutcome : Prop :=
  (∀ (s u : State) (c : ChannelNo) (i : Instr),
    ((s.lau.phase = .replyGap ∧ i = .replyGapClose ∧ ∃ a, s.lau.ask = some a ∧ a.source = .channel c) ∨
      (∃ f ans, AnswersAsk s (.channel c) i f ans) ∨
      (∃ x a, s.lau.phase = .transmitting x ∧ x.jam = false ∧
        (x.source = none ∨ x.recoveryRound = true → s.lau.clash < 2) ∧ i = .collision ∧ s.lau.ask = some a ∧
        a.source = .channel c)) →
    ((s.channel c).state.phase ≠ none ∨ (s.channel c).state = .aborting) →
    exec i (s.setChannel c { s.channel c with endPending := none, holdPending := false }) = .next u →
    (((u.channel c).state = .done ∨ (u.channel c).state = .failed) → exec i s = .next u) ∧
    (∀ r, (u.channel c).state ≠ .done → (u.channel c).state ≠ .failed → (s.channel c).endPending = some r →
      ∃ t, exec i s = .next t ∧ ChannelEnds c r 0 u t) ∧
    (∀ p, (u.channel c).state.phase = some p → (s.channel c).endPending = none → (s.channel c).holdPending = true →
      ∃ t, exec i s = .next t ∧ ChannelHeld c p u t)) ∧
  (∀ (s v : State) (x : Transmission) (i : Instr), s.lau.phase = .transmitting x → x.jam = false →
    (x.source = none ∨ x.recoveryRound = true) → s.lau.clash = 2 → s.station.mode.onLine = true →
    (i = .collision ∨ i = .clashCountLimit) → exec .collision (s.setLau { s.lau with clash := 0 }) = .next v →
    ∃ t, exec i s = .next t ∧ EntersClash (v.setLau { v.lau with clash := 3 }) t)

/-! ### Timers -/

/-- The end of the listen time moves LISTENING to JOINING where L is known; otherwise the event that makes L known, as a
frame, corrupted activity or a silent round, does. The presence timer's end makes PRESENCE due. The ends of a channel's
pause, of its data wait in DATA, of a context's pause, of an active context's idle time and of a LINGERING one's linger
time (R51, R52, R72, R106, R115, R155, R160, R161). An expiry acts on a timer that has counted to its end; one that a
restart or a stop of the same moment reached first does nothing (R48, R67, R72, R115, R139, R160; log 4). -/
def Obligations.TimersRunOut : Prop :=
  (∀ s : State,
    (s.station.mode = .listening → s.station.listenTimer = some 0 →
      (s.lau.last = none →
        exec .listenTimerExpiry s = .next (s.setStation { s.station with listenTimer := none })) ∧
      (s.lau.last ≠ none →
        exec .listenTimerExpiry s = .next ((s.setStation { s.station with
          mode := .joining, joinReady := true, listenTimer := none }).setPort
            { s.port with notices := { s.port.notices with stateChange := true } }))) ∧
    (∀ i u, WaitsForL s → Hears s →
      ((s.lau.phase = .contention 32 true ∧ i = .silentRound) ∨ (∃ a, i = .corruptedFrame a) ∨
        ∃ f, receivedFrame s.station.number i = some f) →
      exec i (s.setStation { s.station with listenTimer := some 1 }) = .next u → u.station.mode = .listening →
      exec i s = .next ((u.setStation { u.station with
        mode := .joining, joinReady := true, listenTimer := none }).setPort
          { u.port with notices := { u.port.notices with stateChange := true } })) ∧
    (s.station.mode = .online → s.peers.presenceTimer = some 0 →
      exec .presenceTimerExpiry s = .next ((s.setPeers { s.peers with presenceTimer := none }).setStation
        { s.station with presenceDue := true }))) ∧
  (∀ (s : State) (c : ChannelNo),
    ((s.channel c).pauseTimer = some 0 →
      exec (.channelPauseExpiry c) s = .next (s.setChannel c { s.channel c with pauseTimer := none })) ∧
    ((s.channel c).state = .data → (s.channel c).dataWait = some 0 →
      exec (.dataWaitExpiry c) s = .next (s.setChannel c { s.channel c with
        state := .close, timeoutMark := true, attempts := 0, dataWait := none, built := false }))) ∧
  (∀ (s : State) (k : SlotNo),
    ((s.context k).pauseTimer = some 0 →
      exec (.contextPauseExpiry k) s = .next (s.setContext k { s.context k with pauseTimer := none })) ∧
    ((s.context k).state = .receiving ∨ (s.context k).state = .sending ∨ (s.context k).state = .drained →
      (s.context k).idleTimer = some 0 →
      ∃ t, exec (.idleTimerExpiry k) s = .next t ∧ ContextEnds k .idleTimeout s t) ∧
    ((s.context k).state = .lingering → (s.context k).idleTimer = some 0 →
      ∃ t, exec (.lingerExpiry k) s = .next t ∧ ContextFreed k s t)) ∧
  (∀ (s : State) (i : Instr), isTimerRow i = true → timerOf s i ≠ some 0 → exec i s = .next s)

/-- What CANCEL and a deadline do to a channel that runs, by its state, its ask and its held phase (R130, R131, R138). -/
def Sys2Proof.Machine.GivesUp (c : ChannelNo) (why : AbortReason) (s u : State) : Prop :=
  let ch := s.channel c
  ((ch.state = .request ∧ ch.askInFlight = false ∨ ch.state = .held ∧ ch.heldPhase = .request) ∧
      ChannelEnds c why.condition 0 s u) ∨
    (((ch.state = .data ∨ ch.state = .close) ∧ ch.askInFlight = false ∨
        ch.state = .held ∧ ch.heldPhase ≠ .request) ∧ ChannelAborts c why s u) ∨
    ((ch.state = .request ∨ ch.state = .data ∨ ch.state = .close) ∧ ch.askInFlight = true ∧
      u = s.setChannel c { ch with endPending := some (ch.endPending.getD why.condition) })

/-- CANCEL and the end of a channel's deadline, by the channel's state (R104, R118, R130 to R132, R138). The expiry acts
on a timer counted to its end: log 4. -/
def Obligations.CancelAndDeadline : Prop :=
  (∀ (s : State) (tag ch : Byte) (c : ChannelNo), HostTakes s → ch.toNat = c.val →
    ((s.channel c).state = .armed → ∃ u, ChannelEnds c .cancelled 0 s u ∧
      exec (.cancel tag ch) s = .next (u.answered 0x25#8 tag [(2, ch)] (.ok []))) ∧
    ((s.channel c).state = .idle ∨ (s.channel c).state = .done ∨ (s.channel c).state = .failed ∨
        (s.channel c).state = .aborting →
      exec (.cancel tag ch) s = .next (s.answered 0x25#8 tag [(2, ch)] (.ok []))) ∧
    ((s.channel c).state.running = true → ∃ u, GivesUp c .cancelled s u ∧
      exec (.cancel tag ch) s = .next (u.answered 0x25#8 tag [(2, ch)]
        { status := .ok, body := [],
          detail := if (s.channel c).state ≠ .held ∧ (s.channel c).askInFlight then 1 else 0 }))) ∧
  (∀ (s : State) (c : ChannelNo), (s.channel c).deadlineTimer = some 0 → (s.channel c).state.running = true →
    ∃ u, GivesUp c .deadline (s.setChannel c { s.channel c with deadlineTimer := none }) u ∧
      exec (.deadlineExpiry c) s = .next u)

/-! ### The host port byte by byte -/

/-- A data byte of a memory transaction outside LOADING makes a one-byte claim at the current address, which rises by
one and wraps after 65,535 (R171, R183, R184). The byte operand as the transaction's representation: log 16. -/
def Obligations.MemoryBytes : Prop :=
  ∀ (s : State) (first : Option Word) (a : Nat), PortServes s →
    (∀ v : Byte, ((first.map BitVec.toNat = some a ∧ s.port.spi = none) ∨
          (first = none ∧ s.port.spi = some { kind := .memoryWrite, address := a })) →
      exec (.memoryWriteByte first v) s = .next (s.setPort { s.port with
        spi := some { kind := .memoryWrite, address := (a + 1) % 65536 }, so := some 0#8,
        claims := s.port.claims ++ [.write a v] })) ∧
    (first.map BitVec.toNat = some a → s.port.spi = none →
      exec (.memoryReadByte first) s = .next (s.setPort { s.port with
        spi := some { kind := .memoryRead, address := (a + 1) % 65536 }, so := some 0#8,
        claims := s.port.claims ++ [.read a] })) ∧
    (first = none → s.port.spi = some { kind := .memoryRead, address := a } →
      exec (.memoryReadByte first) s = .next (s.setPort { s.port with
        spi := some { kind := .memoryRead, address := (a + 1) % 65536 },
        claims := s.port.claims ++ [.read a] }))

/-- A claimant is next in the circle after the pointer among those that present a claim (R172, R173). -/
def Sys2Proof.Machine.InTurn (s : State) : Claimant → Prop
  | .host => s.port.claims ≠ [] ∧
      (s.buffer.pointer = .responders ∨ (s.buffer.pointer = .channels ∧ s.ctxs.claims = []) ∨
        (s.buffer.pointer = .host ∧ s.chans.claims = [] ∧ s.ctxs.claims = []))
  | .channels => s.chans.claims ≠ [] ∧
      (s.buffer.pointer = .host ∨ (s.buffer.pointer = .responders ∧ s.port.claims = []) ∨
        (s.buffer.pointer = .channels ∧ s.port.claims = [] ∧ s.ctxs.claims = []))
  | .responders => s.ctxs.claims ≠ [] ∧
      (s.buffer.pointer = .channels ∨ (s.buffer.pointer = .host ∧ s.chans.claims = []) ∨
        (s.buffer.pointer = .responders ∧ s.port.claims = [] ∧ s.chans.claims = []))

/-- The bytes of a run of buffer memory (R170). -/
def Sys2Proof.Machine.Reads (m : List Host.Cell) (address length : Nat) (bytes : List Byte) : Prop :=
  bytes.length = length ∧ ∀ i, i < length → bytes.getD i 0#8 = memGet m ((address + i) % 65536)

/-- A claim served in the arbiter's turn: the host's byte read or stored, or an engine's payload copied into its held
frame, whose TGL is the toggle; the pointer moves to the claimant, and nothing else changes. Out of turn the event does
not arise (R108, R153, R171 to R174, R183; that it then changes nothing: log 1). Buffer memory is in its canonical
form, which every step keeps (MemoryLawKept). -/
def Obligations.ClaimsServed : Prop :=
  ∀ s : State, MemoryLaw s →
    (InTurn s .host →
      (∀ a rest, s.port.claims = .read a :: rest → exec .hostClaimServed s = .next
        ((s.setPort { s.port with so := some (memGet s.buffer.cells (a % 65536)), claims := rest }).setBuffer
          { s.buffer with pointer := .host })) ∧
      (∀ a v rest, s.port.claims = .write a v :: rest → ∃ m, Stores s.buffer.cells m a [v] ∧
        exec .hostClaimServed s = .next
          ((s.setPort { s.port with claims := rest }).setBuffer { cells := m, pointer := .host }))) ∧
    (InTurn s .channels → ∀ cl rest, s.chans.claims = cl :: rest →
      ∃ bytes, Reads s.buffer.cells cl.address cl.length bytes ∧
        exec .channelReadClaimServed s = .next (((s.setChans { s.chans with claims := rest }).setChannel cl.ch
          { s.channel cl.ch with
            heldFrame := { payload := bytes, tgl := (s.channel cl.ch).toggle }, built := true }).setBuffer
              { s.buffer with pointer := .channels })) ∧
    (InTurn s .responders → ∀ cl rest x, s.ctxs.claims = cl :: rest → x = s.context cl.slot →
      ∃ bytes, Reads s.buffer.cells cl.address cl.length bytes ∧
        exec .contextReadClaimServed s = .next (((s.setCtxs { s.ctxs with claims := rest }).setContext cl.slot
          { x with
            heldFrame := { payload := bytes, tgl := x.toggle }, built := true, attempts := 0,
            finalMark := decide (x.moved + cl.length = x.amount ∧
              (cl.length < 16 * 2 ^ x.sizeCode ∨ x.amount = x.total)) }).setBuffer
              { s.buffer with pointer := .responders })) ∧
    (¬InTurn s .host → exec .hostClaimServed s = .next s) ∧
    (¬InTurn s .channels → exec .channelReadClaimServed s = .next s) ∧
    (¬InTurn s .responders → exec .contextReadClaimServed s = .next s)

/-- The port after a byte of a register write is received at an address (R182, R184). -/
def Sys2Proof.Machine.State.atRegister (s : State) (address : Nat) : State :=
  s.setPort { s.port with spi := some { kind := .registerWrite, address := address + 1 }, so := some 0#8 }

/-- The port receives a byte of a register write at an address: CS_N is high and the byte opens its transaction, or the
register write in progress has reached that address (R184; log 16). -/
def Sys2Proof.Machine.ReceivesAt (s : State) (address : Nat) : Prop :=
  s.port.spi = none ∨ s.port.spi = some { kind := .registerWrite, address := address }

/-- Register writes: NOTICE clears the bits written as 1 but CHANNEL_END and PROGRESS, NOTICE_MASK takes its byte, the two
channel sets clear the bits written as 1, GO sets BUSY and marks a command due where it is taken, a COMMAND byte is kept;
every other address ignores the byte. The address rises by one with each byte (R43, R44, R184, R186 to R190). The bytes
of one transaction one by one: log 16. -/
def Obligations.RegisterWrites : Prop :=
  ∀ (s : State) (v : Byte), s.pins.resetHeld = false →
    (ReceivesAt s 0x09 → exec (.noticeWrite true v) s = .next ((s.atRegister 0x09).setPort { (s.atRegister 0x09).port with
      notices :=
        { cmdDone := s.port.notices.cmdDone && !v.getLsbD 0, arrival := s.port.notices.arrival && !v.getLsbD 3,
          arrivalOverflow := s.port.notices.arrivalOverflow && !v.getLsbD 4,
          peerChange := s.port.notices.peerChange && !v.getLsbD 5,
          stateChange := s.port.notices.stateChange && !v.getLsbD 6,
          config := s.port.notices.config && !v.getLsbD 7 } })) ∧
    (ReceivesAt s 0x08 → exec (.noticeWrite false v) s = .next (s.atRegister 0x08)) ∧
    (ReceivesAt s 0x0B → exec (.noticeMaskWrite true v) s = .next ((s.atRegister 0x0B).setPort
      { (s.atRegister 0x0B).port with mask := v })) ∧
    (ReceivesAt s 0x0A → exec (.noticeMaskWrite false v) s = .next (s.atRegister 0x0A)) ∧
    (ReceivesAt s 0x0C → exec (.channelEndedWrite v) s = .next ((s.atRegister 0x0C).setPort
      { (s.atRegister 0x0C).port with ended := s.port.ended &&& ~~~ v })) ∧
    (ReceivesAt s 0x0D → exec (.channelProgressWrite v) s = .next ((s.atRegister 0x0D).setPort
      { (s.atRegister 0x0D).port with progress := s.port.progress &&& ~~~ v })) ∧
    (ReceivesAt s 0x0F →
      (s.station.mode ≠ .loading → s.port.busy = false → exec (.goWrite v) s = .next ((s.atRegister 0x0F).setPort
        { (s.atRegister 0x0F).port with busy := true, due := true })) ∧
      (s.station.mode = .loading ∨ s.port.busy = true → exec (.goWrite v) s = .next (s.atRegister 0x0F))) ∧
    (∀ i : Fin 16, ReceivesAt s (0x10 + i.val) → exec (.registerWrite (BitVec.ofNat 16 (0x10 + i.val)) v) s =
      .next ((s.atRegister (0x10 + i.val)).setPort
        { (s.atRegister (0x10 + i.val)).port with command := s.port.command.set i.val v })) ∧
    (∀ a : Word, ReceivesAt s a.toNat → a ≠ 0x09#16 → a ≠ 0x0B#16 → a ≠ 0x0C#16 → a ≠ 0x0D#16 → a ≠ 0x0F#16 →
      (a.toNat < 0x10 ∨ 0x1F < a.toNat) → exec (.registerWrite a v) s = .next (s.atRegister a.toNat)) ∧
    exec (.registerWrite 0x09#16 v) s = exec (.noticeWrite true v) s ∧
    exec (.registerWrite 0x0B#16 v) s = exec (.noticeMaskWrite true v) s ∧
    exec (.registerWrite 0x0C#16 v) s = exec (.channelEndedWrite v) s ∧
    exec (.registerWrite 0x0D#16 v) s = exec (.channelProgressWrite v) s ∧
    exec (.registerWrite 0x0F#16 v) s = exec (.goWrite v) s

/-- What the register window shows of the state, bit by bit in NOTICE and PRESENT_MAP, and the level of INT_N (R43, R73,
R184 to R188; register reads are no row of the table: log 16). -/
def Obligations.RegisterWindowReads : Prop :=
  ∀ s : State,
    readRegister s 0x00 = 0xE5#8 ∧ readRegister s 0x01 = 0x32#8 ∧ readRegister s 0x02 = 0x01#8 ∧
    readRegister s 0x03 = byteOf s.station.mode.code ∧ readRegister s 0x04 = byteOf s.station.number.val ∧
    readRegister s 0x05 = byteOf s.station.rate.val ∧ readRegister s 0x06 = byteOf s.station.confSource.code ∧
    (readRegister s 0x07 = if s.port.busy then 1#8 else 0#8) ∧ readRegister s 0x08 = 0#8 ∧
    (∀ n b, (n, b) ∈ [(0, s.port.notices.cmdDone), (1, s.port.ended != 0#8), (2, s.port.progress != 0#8),
        (3, s.port.notices.arrival), (4, s.port.notices.arrivalOverflow), (5, s.port.notices.peerChange),
        (6, s.port.notices.stateChange), (7, s.port.notices.config)] →
      (readRegister s 0x09).getLsbD n = b) ∧
    readRegister s 0x0A = 0#8 ∧ readRegister s 0x0B = s.port.mask ∧ readRegister s 0x0C = s.port.ended ∧
    readRegister s 0x0D = s.port.progress ∧ readRegister s 0x0E = byteOf s.arrivals.records.length ∧
    readRegister s 0x0F = 0#8 ∧
    (∀ i : Fin 16, readRegister s (0x10 + i.val) = s.port.command[i.val] ∧
      readRegister s (0x20 + i.val) = s.port.result[i.val]) ∧
    (∀ p : StationNo, (readRegister s (0x33 - p.val / 8)).getLsbD (p.val % 8) =
      decide ((s.peer p).state = .present)) ∧
    (∀ a, 0x33 < a → readRegister s a = 0#8) ∧
    (s.intLow = true ↔ s.pins.resetHeld = false ∧ ∃ n, n < 8 ∧ (readRegister s 0x09).getLsbD n = true ∧
      s.port.mask.getLsbD n = true)

/-- The rise of CS_N ends the transaction and takes a due command from the COMMAND area as it stands, as the row of
that command takes it with BUSY clear; a code not in the table is BAD_COMMAND. The four instruction bytes of the table
open their transactions at the address that follows, most significant byte first, with SO driven with 0 from the fall
of CS_N on; any other leaves every following byte without effect until the rise. A byte's row that does not continue
the transaction in progress, and a command's row, come after the rise that ends it (R182, R183, R184, R190, R192,
R194). A command row as its transactions: log 8; the byte rows and the operations that have none: log 16. -/
def Obligations.CommandTaken : Prop :=
  ∀ s : State, s.pins.resetHeld = false →
    (s.port.due = false → exec .csNRise s = .next (s.setPort { s.port with
      spi := none, so := none, latch := none, claims := keptAtRise s.port.claims })) ∧
    (∀ i bytes, s.port.due = true → s.station.mode ≠ .loading → commandRecord i = some bytes → i.wellFormed = true →
      (∀ p ∈ bytes, s.port.command[p.1.val] = p.2) →
      exec .csNRise s = exec i (s.setPort { s.port with busy := false, due := false })) ∧
    (∀ tag code : Byte, HostTakes s → commandCodes.contains code.toNat = false →
      exec (.badCommand tag code) s = .next (s.answered code tag [] (.refused .badCommand 0))) ∧
    (∀ (code : Byte) kind, (code, kind) ∈ [(0x41#8, SpiKind.registerWrite), (0x42#8, .registerRead),
        (0x51#8, .memoryWrite), (0x52#8, .memoryRead)] →
      ∀ (a : Word) t₀ t₁ t₂ t₃, t₀ = fallCsN s → t₁ = openingByte code t₀ → t₂ = openingByte (hi a) t₁ →
        t₃ = openingByte (lo a) t₂ →
        t₀.port.so = some 0#8 ∧ t₁.port.so = some 0#8 ∧ t₂.port.so = some 0#8 ∧
        t₃ = s.setPort { s.port with spi := some { kind := kind, address := a.toNat }, so := some 0#8 }) ∧
    (∀ code : Byte, s.port.spi = none → spiCodes.contains code.toNat = false →
      exec (.badInstruction code) s = .next (s.setPort { s.port with
        spi := some { kind := .ignored, address := 0 }, so := some 0#8 })) ∧
    (∀ i a, s.port.spi = some { kind := .ignored, address := a } → isPortByte i = true → i ≠ .csNRise →
      exec i s = .next s) ∧
    (∀ i x u, s.port.spi = some x → x.kind ≠ .ignored → OpensTransaction s i → exec .csNRise s = .next u →
      exec i s = exec i u) ∧
    (∀ i u, commandRecord i ≠ none → exec .csNRise s = .next u → exec i s = exec i u)

/-! ### Station commands -/

/-- Entry to LISTENING (R4, R5, R42, R51). -/
def Sys2Proof.Machine.State.listening (s : State) : State :=
  ((s.setStation { s.station with mode := .listening, listenTimer := some (30 * s.station.conf.presenceInterval) }).setLau
    { s.lau with phase := .quiet, last := none, recovery := false, ask := none, answer := none }).setPort
      { s.port with notices := { s.port.notices with stateChange := true } }

/-- What RESTART leaves: the line side at its RESTART values, in LISTENING or OFFLINE, and the rest kept (R4, R35, R58,
R60, R61, R93, R142, R196; the held phase is the model's choice, log 25). -/
structure Sys2Proof.Machine.Restarted (s t : State) : Prop where
  station : t.station = { s.station.silentIn (if s.station.conf.autoJoin then .listening else .offline) with
    listenTimer := if s.station.conf.autoJoin then some (30 * s.station.conf.presenceInterval) else none }
  lau : t.lau = { phase := if s.station.conf.autoJoin then .quiet else .silent,
                  last := if s.station.conf.autoJoin then none else some 31, recovery := false, clash := 0,
                  pointer := 11, ask := none, answer := none }
  peers : t.peers.presenceTimer = none ∧ ∀ p, t.peer p =
    { state := if p = s.station.number then .self else .absent, announced := none, expiry := none, openWindows := 0,
      freeContexts := 0, joinCount := 0 }
  channels : ∀ c, t.channel c = State.reset.channel c
  contexts : ∀ k, t.context k = State.reset.context k
  rest : t = ((((((s.setStation t.station).setLau t.lau).setRx []).setPeers t.peers).setChans
    { recs := t.chans.recs, claims := [] }).setCtxs { slots := t.ctxs.slots, linger := [], claims := [] }).setPort
      { s.port with
        ended := 0#8, progress := 0#8,
        notices := { s.port.notices with peerChange := false, stateChange := true } }

/-- JOIN is taken in OFFLINE and moves the station to LISTENING; elsewhere it is refused with STATE and the station state.
RESTART is taken in every state after LOADING (R50, R51, R58, R191, R196). -/
def Obligations.JoinAndRestart : Prop :=
  ∀ (s : State) (tag : Byte), HostTakes s →
    (s.station.mode = .offline →
      exec (.join tag) s = .next (s.listening.answered 0x01#8 tag [] (.ok [2#8]))) ∧
    (s.station.mode ≠ .offline →
      exec (.join tag) s = .next (s.answered 0x01#8 tag []
        { status := .state, detail := 0, body := [byteOf s.station.mode.code] })) ∧
    ∃ u, Restarted s u ∧ exec (.restart tag) s = .next (u.answered 0x03#8 tag []
      (.ok [if s.station.conf.autoJoin then 2#8 else 1#8]))

/-- WITHDRAW by the station state and whether an own transmission is in progress (R53, R54, R55, R56). Its result is the
state the command leaves: log 9. -/
def Obligations.Withdraw : Prop :=
  ∀ (s : State) (tag : Byte), HostTakes s →
    (s.station.mode = .offline ∨ s.station.mode = .listening ∨
        (s.station.mode = .joining ∧ s.lau.phase.sending = false) →
      ∃ u, EntersWithdrawn s u ∧ exec (.withdraw tag) s = .next (u.answered 0x02#8 tag [] (.ok [6#8]))) ∧
    (s.station.mode = .online → s.lau.phase.sending = false →
      ∃ u, EntersWithdrawing s u ∧ exec (.withdraw tag) s = .next (u.answered 0x02#8 tag [] (.ok [5#8]))) ∧
    (s.station.mode = .joining ∨ s.station.mode = .online → s.lau.phase.sending = true →
      exec (.withdraw tag) s = .next ((s.setStation { s.station with withdrawPending := true }).answered 0x02#8 tag []
        (.ok [byteOf s.station.mode.code]))) ∧
    (s.station.mode = .withdrawing → exec (.withdraw tag) s = .next (s.answered 0x02#8 tag [] (.ok [5#8]))) ∧
    (s.station.mode = .withdrawn ∨ s.station.mode = .clash →
      exec (.withdraw tag) s = .next (s.answered 0x02#8 tag []
        { status := .state, detail := 0, body := [byteOf s.station.mode.code] }))

/-! ### Window commands -/

/-- A window's range and an OPEN window share a byte (R77). -/
def Sys2Proof.Machine.Meets (base size : Nat) (w : Window) : Prop :=
  w.isOpen = true ∧ base < w.base + 256 * 2 ^ w.sizeCode ∧ w.base < base + size

/-- The checks of OPEN_WINDOW of an entry but the last, in their order (R77). -/
def Sys2Proof.Machine.openChecks (s : State) (id sizeCode access : Byte) (base valid : Word) : List (Prop × Reply) :=
  let size := 256 * 2 ^ sizeCode.toNat
  [(id.toNat ≤ 7, .refused .badArg 2), (sizeCode.toNat ≤ 7, .refused .badArg 3),
   (access = 1#8 ∨ access = 2#8, .refused .badArg 4),
   ((s.window (Fin.ofNat 8 id.toNat)).isOpen = false, .refused .inUse 0),
   (base.toNat % size = 0, .refused .badArg 6), (base.toNat + size ≤ 65536, .refused .range 0),
   (valid.toNat ≤ size, .refused .range 0)]

/-- OPEN_WINDOW makes its checks in order, the last one against the lowest OPEN window met; where all pass it writes the
entry and answers the number of OPEN windows (R77, R78, R191, R192). -/
def Obligations.OpenWindow : Prop :=
  ∀ (s : State) (tag id sizeCode access : Byte) (base : Word) (mask : BitVec 32) (valid : Word) (params : List (Fin 16 × Byte)),
    HostTakes s →
    params = [(2, id), (3, sizeCode), (4, access), (6, hi base), (7, lo base), (8, mask.extractLsb' 24 8),
      (9, mask.extractLsb' 16 8), (10, mask.extractLsb' 8 8), (11, mask.extractLsb' 0 8), (12, hi valid),
      (13, lo valid)] →
    (∀ r, FirstFails (openChecks s id sizeCode access base valid) r →
      exec (.openWindow tag id sizeCode access base mask valid) s = .next (s.answered 0x10#8 tag params r)) ∧
    (AllPass (openChecks s id sizeCode access base valid) →
      (∀ w : Fin 8, Meets base.toNat (256 * 2 ^ sizeCode.toNat) (s.window w) →
          (∀ v, v < w → ¬Meets base.toNat (256 * 2 ^ sizeCode.toNat) (s.window v)) →
        exec (.openWindow tag id sizeCode access base mask valid) s =
          .next (s.answered 0x10#8 tag params (.refused .overlap w.val))) ∧
      ((∀ w, ¬Meets base.toNat (256 * 2 ^ sizeCode.toNat) (s.window w)) → ∀ u,
          u = s.setWindow (Fin.ofNat 8 id.toNat)
            { isOpen := true, base := base.toNat, sizeCode := sizeCode.toNat,
              access := if access = 1#8 then .readOnly else .readWrite, mask := mask, valid := valid.toNat } →
        exec (.openWindow tag id sizeCode access base mask valid) s =
          .next (u.answered 0x10#8 tag params (.ok [byteOf (allWindows.filter fun w => (u.window w).isOpen).length]))))

/-- The number of active PUT and GET contexts on a window (R80, R90). -/
def Sys2Proof.Machine.contextsOn (s : State) (w : Fin 8) : Nat :=
  (allSlots.filter fun k => (s.context k).state.active && (s.context k).op != .list && (s.context k).windowId == w).length

/-- CLOSE_WINDOW closes the entry, keeps its fields and ends its active PUTs and GETs in slot order; DROP_CONTEXT ends an
active context or frees a LINGERING one (R80, R162, R163, R165, R168). -/
def Obligations.CloseWindowAndDropContext : Prop :=
  ∀ (s : State) (tag n : Byte), HostTakes s →
    (7 < n.toNat → exec (.closeWindow tag n) s = .next (s.answered 0x11#8 tag [(2, n)] (.refused .badArg 2))) ∧
    (∀ w : Fin 8, n.toNat = w.val →
      ((s.window w).isOpen = false →
        exec (.closeWindow tag n) s = .next (s.answered 0x11#8 tag [(2, n)] (.refused .notOpen 0))) ∧
      ((s.window w).isOpen = true → ∀ v p, v = s.setWindow w { s.window w with isOpen := false } →
          p = (fun x : Context => x.op != .list && x.windowId == w) →
        ∃ u, ContextsTake p .windowClosed false v u ∧
          u = ((v.setCtxs u.ctxs).setArrivals u.arrivals).setPort { s.port with
            notices := s.port.notices.taking s.arrivals (s.recordsOf p .windowClosed) } ∧
          exec (.closeWindow tag n) s =
            .next (u.answered 0x11#8 tag [(2, n)] (.ok [byteOf (contextsOn s w)])))) ∧
    (3 < n.toNat → exec (.dropContext tag n) s = .next (s.answered 0x31#8 tag [(2, n)] (.refused .badArg 2))) ∧
    (∀ k : SlotNo, n.toNat = k.val →
      ((s.context k).state = .free →
        exec (.dropContext tag n) s = .next (s.answered 0x31#8 tag [(2, n)] (.ok [0#8, 0#8]))) ∧
      ((s.context k).state = .lingering → ∃ u, ContextFreed k s u ∧
        exec (.dropContext tag n) s = .next (u.answered 0x31#8 tag [(2, n)] (.ok [4#8, 2#8]))) ∧
      ((s.context k).state = .receiving ∨ (s.context k).state = .sending ∨ (s.context k).state = .drained →
        ∃ u, ContextEnds k .hostDropped s u ∧ exec (.dropContext tag n) s =
          .next (u.answered 0x31#8 tag [(2, n)] (.ok [byteOf (s.context k).state.code, 1#8]))))

/-- SET_VALID makes its checks in order; where all pass the valid length becomes the given length, and nothing else
changes (R83). -/
def Obligations.SetValid : Prop :=
  ∀ (s : State) (tag id : Byte) (length : Word) (params : List (Fin 16 × Byte)), HostTakes s →
    params = [(2, id), (4, hi length), (5, lo length)] → ∀ w, w = s.window (Fin.ofNat 8 id.toNat) →
    (∀ r, FirstFails [(id.toNat ≤ 7, Reply.refused .badArg 2), (w.isOpen = true, .refused .notOpen 0),
        (length.toNat ≤ 256 * 2 ^ w.sizeCode, .refused .range 0)] r →
      exec (.setValid tag id length) s = .next (s.answered 0x12#8 tag params r)) ∧
    (id.toNat ≤ 7 → w.isOpen = true → length.toNat ≤ 256 * 2 ^ w.sizeCode →
      exec (.setValid tag id length) s = .next
        ((s.setWindow (Fin.ofNat 8 id.toNat) { w with valid := length.toNat }).answered 0x12#8 tag params (.ok [])))

/-! ### Reports -/

/-- STATION_INFO, PEER_INFO, WINDOW_INFO, CHANNEL_INFO and CONTEXT_INFO change nothing but the mailbox, and give the
values as they stand at their places in the RESULT area, byte 4 first (R59, R61, R74, R90, R102, R169, R193). -/
def Obligations.InfoCommands : Prop :=
  ∀ (s : State) (tag n part : Byte), HostTakes s →
    exec (.stationInfo tag) s = .next (s.answered 0x04#8 tag [] (.ok
      [byteOf s.station.mode.code, byteOf s.station.number.val, byteOf s.station.rate.val,
       byteOf s.station.conf.retryLimit, byteOf s.station.conf.presenceInterval, byteOf s.station.conf.idleLimit,
       if s.station.conf.autoJoin then 1#8 else 0#8, byteOf s.station.confSource.code,
       (match s.lau.last with | some l => byteOf l.val | none => 0xFF#8), byteOf s.lau.clash])) ∧
    (31 < n.toNat → exec (.peerInfo tag n) s = .next (s.answered 0x08#8 tag [(2, n)] (.refused .badArg 2))) ∧
    (∀ p : StationNo, n.toNat = p.val →
      exec (.peerInfo tag n) s = .next (s.answered 0x08#8 tag [(2, n)] (.ok
        (if (s.peer p).state = .self then
          [2#8, byteOf s.station.conf.presenceInterval, byteOf s.openCount, byteOf s.freeSlots,
            byteOf (s.peer p).joinCount, 0#8, 0#8]
        else
          [byteOf (s.peer p).state.code, byteOf ((s.peer p).announced.getD 0), byteOf (s.peer p).openWindows,
            byteOf (s.peer p).freeContexts, byteOf (s.peer p).joinCount] ++ wordBytes ((s.peer p).expiry.getD 0))))) ∧
    (7 < n.toNat → exec (.windowInfo tag n) s = .next (s.answered 0x13#8 tag [(2, n)] (.refused .badArg 2))) ∧
    (∀ w : Fin 8, n.toNat = w.val → exec (.windowInfo tag n) s = .next (s.answered 0x13#8 tag [(2, n)] (.ok
      ([if (s.window w).isOpen then 1#8 else 0#8, byteOf (s.window w).sizeCode, byteOf (s.window w).access.code,
        byteOf (contextsOn s w)] ++ wordBytes (s.window w).base ++ wordBytes (s.window w).valid ++
        bytes32 (s.window w).mask)))) ∧
    (∀ (c : ChannelNo) (ch : Channel), n.toNat = c.val → ch = s.channel c →
      (∀ body, (part = 0#8 ∧ body = [byteOf ch.state.code, byteOf ch.condition.code, ch.detail,
            (if ch.state = .held then
              (match ch.heldPhase with | .request => 2#8 | .data => 3#8 | .close => 4#8) else 0#8),
            byteOf (ch.toggle.toNat + 2 * ch.askInFlight.toNat + 4 * ch.holdPending.toNat +
              8 * ch.endPending.isSome.toNat + 16 * ch.timeoutMark.toNat), byteOf ch.attempts] ++
            wordBytes ch.moved ++ wordBytes ch.remaining ++ wordBytes (ch.deadlineTimer.getD 0)) ∨
          (part = 1#8 ∧ body = [byteOf ch.desc.peer.val, byteOf (16 * ch.desc.op.code + ch.desc.windowId),
            byteOf (128 * ch.desc.shortOk.toNat + ch.desc.sizeCode)] ++ wordBytes ch.desc.remoteOffset ++
            wordBytes ch.desc.localAddress ++ wordBytes ch.desc.total ++
            [byteOf ch.desc.progress, (match ch.desc.next with | some m => byteOf m.val | none => 0xFF#8)]) ∨
          (part = 2#8 ∧ body = wordBytes ch.desc.deadline ++ wordBytes (ch.dataWait.getD 0) ++
            [byteOf ch.progressCount, (match ch.endPending with | some r => byteOf r.code | none => 0#8),
             byteOf ch.abortReason.condition.code]) →
        exec (.channelInfo tag n part) s = .next (s.answered 0x28#8 tag [(2, n), (3, part)] (.ok body))) ∧
      (2 < part.toNat →
        exec (.channelInfo tag n part) s = .next (s.answered 0x28#8 tag [(2, n), (3, part)] (.refused .badArg 3)))) ∧
    (3 < n.toNat →
      exec (.contextInfo tag n part) s = .next (s.answered 0x30#8 tag [(2, n), (3, part)] (.refused .badArg 2))) ∧
    (∀ (k : SlotNo) (x : Context), n.toNat = k.val → x = s.context k →
      (∀ body, (part = 0#8 ∧ body = [byteOf x.state.code, byteOf x.initiator.val, byteOf x.xch.val, byteOf x.op.code,
            byteOf x.windowId.val, byteOf x.sizeCode, if x.toggle then 1#8 else 0#8, byteOf x.attempts,
            byteOf (x.askInFlight.toNat + 2 * x.pauseTimer.isSome.toNat + 4 * x.finalMark.toNat),
            (match x.result with | some r => byteOf r.code | none => 0xFF#8)]) ∨
          (part = 1#8 ∧ body = wordBytes x.offset ++ wordBytes x.total ++ wordBytes x.amount ++ wordBytes x.moved ++
            wordBytes (x.idleTimer.getD 0) ++ wordBytes (x.pauseTimer.getD 0)) ∨
          (part = 2#8 ∧ body =
            (match x.stored with
              | some r => [byteOf r.result.code, 0#8] ++ wordBytes r.count ++ wordBytes r.valid
              | none => [0#8, 0#8, 0#8, 0#8, 0#8, 0#8]) ++
            [byteOf (if k ∈ s.ctxs.linger then s.ctxs.linger.idxOf k + 1 else 0), byteOf s.freeSlots]) →
        exec (.contextInfo tag n part) s = .next (s.answered 0x30#8 tag [(2, n), (3, part)] (.ok body))) ∧
      (2 < part.toNat →
        exec (.contextInfo tag n part) s = .next (s.answered 0x30#8 tag [(2, n), (3, part)] (.refused .badArg 3))))

/-! ### Channel commands -/

/-- Every command that names a channel refuses a channel number above 7 with BAD_ARG, detail 2, the number's place in the
COMMAND area, before any other check (R95). -/
def Obligations.ChannelNumberChecked : Prop :=
  ∀ (s : State) (i : Instr) (code tag ch : Byte) (params : List (Fin 16 × Byte)), HostTakes s →
    commandRecord i = some ([(0, code), (1, tag)] ++ (2, ch) :: params) → 0x20 ≤ code.toNat → code.toNat ≤ 0x29 →
    i.wellFormed = true → 7 < ch.toNat →
    exec i s = .next (s.answered code tag ((2, ch) :: params) (.refused .badArg 2))

/-- Checks 4 and 5 of START, which ARM makes too, in their order (R96). -/
def Sys2Proof.Machine.descriptorChecks (own : StationNo) (c : ChannelNo) (d : DescriptorArg) : List (Prop × Reply) :=
  let op := d.opWindow.toNat / 16
  let window := d.opWindow.toNat % 16
  [(d.peer.toNat ≤ 31 ∧ d.peer.toNat ≠ own.val, .refused .badArg 3),
   (1 ≤ op ∧ op ≤ 3 ∧ (op ≠ 3 → window ≤ 7), .refused .badArg 4),
   (d.sizeByte.toNat % 8 ≤ 4, .refused .badArg 5), (op ≠ 3 → d.remoteOffset.toNat ≤ 32767, .refused .badArg 6),
   (d.total.toNat ≤ 32768, .refused .badArg 10), (d.progress.toNat ≤ 16, .refused .badArg 12),
   (d.next = 0xFF#8 ∨ (d.next.toNat ≤ 7 ∧ d.next.toNat ≠ c.val), .refused .badArg 13),
   (d.localAddress.toNat + d.total.toNat ≤ 65536, .refused .range 0)]

/-- The descriptor that the parameters give (R91; LIST keeps the window id and the offset as given: log 18). -/
def Sys2Proof.Machine.descriptorIn (d : DescriptorArg) : Descriptor :=
  { peer := Fin.ofNat 32 d.peer.toNat,
    op := match d.opWindow.toNat / 16 with | 1 => .put | 2 => .get | 3 => .list | _ => .none,
    windowId := d.opWindow.toNat % 16, remoteOffset := d.remoteOffset.toNat, localAddress := d.localAddress.toNat,
    total := d.total.toNat, sizeCode := d.sizeByte.toNat % 8, shortOk := d.sizeByte.getLsbD 7,
    progress := d.progress.toNat, next := if d.next.toNat ≤ 7 then some (Fin.ofNat 8 d.next.toNat) else none,
    deadline := d.deadline.toNat }

/-- COMMAND bytes 2 to 15 of START and ARM (10_host_port.md 10.4). -/
def Sys2Proof.Machine.descriptorPlaces (ch : Byte) (d : DescriptorArg) : List (Fin 16 × Byte) :=
  [(2, ch), (3, d.peer), (4, d.opWindow), (5, d.sizeByte), (6, hi d.remoteOffset), (7, lo d.remoteOffset),
    (8, hi d.localAddress), (9, lo d.localAddress), (10, hi d.total), (11, lo d.total), (12, d.progress), (13, d.next),
    (14, hi d.deadline), (15, lo d.deadline)]

/-- START makes its checks in order and a refused one changes nothing; one that passes writes the descriptor and starts
the channel in REQUEST (R91, R96, R97, R188; LIST's unused fields: log 18). -/
def Obligations.Start : Prop :=
  ∀ (s : State) (tag ch : Byte) (d : DescriptorArg) (c : ChannelNo), HostTakes s → ch.toNat = c.val →
    ∀ checks, checks =
        [(s.station.mode = .online, Reply.refused .state 0),
         ((s.channel c).state = .idle ∨ (s.channel c).state = .done ∨ (s.channel c).state = .failed,
           .refused .channelState 0)] ++ descriptorChecks s.station.number c d ++
        [((s.peer (Fin.ofNat 32 d.peer.toNat)).state = .present, .refused .peerAbsent 0)] →
    (∀ r, FirstFails checks r →
      exec (.start tag ch d) s = .next (s.answered 0x20#8 tag (descriptorPlaces ch d) r)) ∧
    (AllPass checks →
      exec (.start tag ch d) s = .next
        ((s.starts c { s.channel c with desc := descriptorIn d }).answered 0x20#8 tag (descriptorPlaces ch d) (.ok [])))

/-- ARM writes the descriptor of an IDLE, ARMED, DONE or FAILED channel after its checks and leaves it ARMED; TRIGGER
starts an ARMED channel from its descriptor, or ends it where its peer is not PRESENT (R98, R99, R118, R188; the fields
ARM does not name: log 17; LIST's unused fields: log 18). -/
def Obligations.ArmAndTrigger : Prop :=
  ∀ (s : State) (tag ch : Byte) (c : ChannelNo), HostTakes s → ch.toNat = c.val →
    (∀ d checks, checks =
        [(s.station.mode ≠ .withdrawing ∧ s.station.mode ≠ .withdrawn ∧ s.station.mode ≠ .clash,
           Reply.refused .state 0),
         ((s.channel c).state = .idle ∨ (s.channel c).state = .armed ∨ (s.channel c).state = .done ∨
           (s.channel c).state = .failed, .refused .channelState 0)] ++ descriptorChecks s.station.number c d →
      (∀ r, FirstFails checks r →
        exec (.arm tag ch d) s = .next (s.answered 0x21#8 tag (descriptorPlaces ch d) r)) ∧
      (AllPass checks → ∀ t, t = s.setChannel c { s.channel c with
          desc := descriptorIn d, moved := 0, remaining := d.total.toNat, state := .armed, condition := .none,
          detail := 0 } →
        ((s.channel c).state = .idle ∨ (s.channel c).state = .armed →
          exec (.arm tag ch d) s = .next (t.answered 0x21#8 tag (descriptorPlaces ch d) (.ok []))) ∧
        ((s.channel c).state = .done ∨ (s.channel c).state = .failed →
          exec (.arm tag ch d) s = .next ((t.setPort { t.port with
            ended := s.port.ended &&& ~~~ BitVec.twoPow 8 c.val,
            progress := s.port.progress &&& ~~~ BitVec.twoPow 8 c.val }).answered 0x21#8 tag (descriptorPlaces ch d)
              (.ok []))))) ∧
    (∀ r, FirstFails [(s.station.mode = .online, Reply.refused .state 0),
        ((s.channel c).state = .armed, .refused .channelState 0)] r →
      exec (.trigger tag ch) s = .next (s.answered 0x22#8 tag [(2, ch)] r)) ∧
    (s.station.mode = .online → (s.channel c).state = .armed →
      ((s.peer (s.channel c).desc.peer).state = .present →
        exec (.trigger tag ch) s = .next ((s.starts c (s.channel c)).answered 0x22#8 tag [(2, ch)] (.ok []))) ∧
      ((s.peer (s.channel c).desc.peer).state ≠ .present → ∃ u, ChannelEnds c .peerAbsent 0 s u ∧
        exec (.trigger tag ch) s = .next (u.answered 0x22#8 tag [(2, ch)] (.refused .peerAbsent 0))))

/-- HOLD holds a channel with no ask in flight and pends with one; RESUME returns a HELD channel to its phase; SET_DEADLINE
gives a running or ARMED channel a new deadline; elsewhere each is refused with CHANNEL_STATE (R108, R115, R124 to R126,
R128, R136). -/
def Obligations.HoldResumeSetDeadline : Prop :=
  ∀ (s : State) (tag n : Byte) (c : ChannelNo) (ch : Channel), HostTakes s → n.toNat = c.val → ch = s.channel c →
    (∀ p, ch.state.phase = some p →
      (ch.askInFlight = false → ∃ u, ChannelHeld c p s u ∧
        exec (.hold tag n) s = .next (u.answered 0x23#8 tag [(2, n)] (.ok []))) ∧
      (ch.askInFlight = true →
        exec (.hold tag n) s = .next ((s.setChannel c { ch with holdPending := true }).answered 0x23#8 tag [(2, n)]
          { status := .ok, detail := 1, body := [] }))) ∧
    (ch.state = .held → exec (.hold tag n) s = .next (s.answered 0x23#8 tag [(2, n)] (.ok []))) ∧
    (ch.state.phase = none → ch.state ≠ .held →
      exec (.hold tag n) s = .next (s.answered 0x23#8 tag [(2, n)] (.refused .channelState 0))) ∧
    (ch.state ≠ .held →
      exec (.resume tag n) s = .next (s.answered 0x24#8 tag [(2, n)] (.refused .channelState 0))) ∧
    (ch.state = .held →
      (∀ u, (ch.heldPhase = .request ∧ u = s.setChannel c { ch with state := .request }) ∨
          (ch.heldPhase = .data ∧ ch.desc.op = .put ∧ ch.built = true ∧
            u = s.setChannel c { ch with state := .data }) ∨
          (ch.heldPhase = .data ∧ ch.desc.op ≠ .put ∧
            u = s.setChannel c { ch with state := .data, dataWait := some (100 * s.station.conf.idleLimit) }) ∨
          (ch.heldPhase = .close ∧ u = s.setChannel c { ch with state := .close }) →
        exec (.resume tag n) s = .next (u.answered 0x24#8 tag [(2, n)] (.ok []))) ∧
      (ch.heldPhase = .data → ch.desc.op = .put → ch.built = false →
        ∃ u, ChannelClaims c (s.setChannel c { ch with state := .data }) u ∧
          exec (.resume tag n) s = .next (u.answered 0x24#8 tag [(2, n)] (.ok [])))) ∧
    (∀ (ms : Word) params, params = [(2, n), (3, hi ms), (4, lo ms)] →
      (ms = 0#16 → exec (.setDeadline tag n ms) s = .next (s.answered 0x26#8 tag params (.refused .badArg 3))) ∧
      (ms ≠ 0#16 → ch.state.running = true →
        exec (.setDeadline tag n ms) s = .next ((s.setChannel c { ch with
          desc := { ch.desc with deadline := ms.toNat }, deadlineTimer := some ms.toNat }).answered 0x26#8 tag params
            (.ok []))) ∧
      (ms ≠ 0#16 → ch.state = .armed →
        exec (.setDeadline tag n ms) s = .next ((s.setChannel c { ch with
          desc := { ch.desc with deadline := ms.toNat } }).answered 0x26#8 tag params (.ok []))) ∧
      (ms ≠ 0#16 → ch.state.running = false → ch.state ≠ .armed →
        exec (.setDeadline tag n ms) s = .next (s.answered 0x26#8 tag params (.refused .channelState 0))))

/-- RELEASE returns a DONE or FAILED channel to IDLE, clears its bits in CHANNEL_ENDED and CHANNEL_PROGRESS and keeps the
rest of its record; CLEAR_DEADLINE stops a running deadline or clears an ARMED channel's, and is OK elsewhere with no
change (R101, R137). -/
def Obligations.ReleaseAndClearDeadline : Prop :=
  ∀ (s : State) (tag n : Byte) (c : ChannelNo) (ch : Channel), HostTakes s → n.toNat = c.val → ch = s.channel c →
    (ch.state = .done ∨ ch.state = .failed →
      exec (.release tag n) s = .next (((s.setChannel c { ch with state := .idle, condition := .none, detail := 0 }).setPort
        { s.port with
          ended := s.port.ended &&& ~~~ BitVec.twoPow 8 c.val,
          progress := s.port.progress &&& ~~~ BitVec.twoPow 8 c.val }).answered 0x29#8 tag [(2, n)] (.ok []))) ∧
    (ch.state ≠ .done → ch.state ≠ .failed →
      exec (.release tag n) s = .next (s.answered 0x29#8 tag [(2, n)] (.refused .channelState 0))) ∧
    (ch.state.running = true → ch.deadlineTimer ≠ none →
      exec (.clearDeadline tag n) s = .next ((s.setChannel c { ch with
        desc := { ch.desc with deadline := 0 }, deadlineTimer := none }).answered 0x27#8 tag [(2, n)] (.ok []))) ∧
    (ch.state = .armed →
      exec (.clearDeadline tag n) s = .next ((s.setChannel c { ch with
        desc := { ch.desc with deadline := 0 } }).answered 0x27#8 tag [(2, n)] (.ok []))) ∧
    (ch.state ≠ .armed → ¬(ch.state.running = true ∧ ch.deadlineTimer ≠ none) →
      exec (.clearDeadline tag n) s = .next (s.answered 0x27#8 tag [(2, n)] (.ok [])))

/-! ### The Arrival Queue -/

/-- TAKE_ARRIVAL removes the oldest record and returns it with the number left and OVERFLOW, which clears when none is
left; with none waiting it is EMPTY and changes nothing. The notices of the queue stay (R179). -/
def Obligations.TakeArrival : Prop :=
  ∀ (s : State) (tag : Byte), HostTakes s →
    (s.arrivals.records = [] →
      exec (.takeArrival tag) s = .next (s.answered 0x38#8 tag [] (.refused .empty 0))) ∧
    (∀ r rest overflow, s.arrivals.records = r :: rest →
      overflow = (if rest = [] then false else s.arrivals.overflow) →
      exec (.takeArrival tag) s = .next ((s.setArrivals { records := rest, overflow := overflow }).answered 0x38#8 tag []
        (.ok ([(match r.windowId with | some w => byteOf w.val | none => 0xFF#8), byteOf r.initiator.val,
          byteOf r.xch.val, byteOf r.op.code] ++ wordBytes r.offset ++ wordBytes r.count ++
          [byteOf r.result.code, byteOf rest.length, if overflow then 1#8 else 0#8]))))

/-! ### Laws that every step keeps -/

/-- Every step keeps the canonical form of buffer memory (R170). -/
def Obligations.MemoryLawKept : Prop := ∀ s t : State, MemoryLaw s → step s = .next t → MemoryLaw t

/-- Every step keeps the Arrival Queue within 16 records, and OVERFLOW clear while it is empty (R177, R179). -/
def Obligations.ArrivalLawKept : Prop := ∀ s t : State, ArrivalLaw s → step s = .next t → ArrivalLaw t

/-- Every step keeps the entry of the own number, and that entry alone, SELF (R60). -/
def Obligations.SelfLawKept : Prop := ∀ s t : State, SelfLaw s → step s = .next t → SelfLaw t

/-- Every step keeps each channel's condition as its state requires (R92, R120). -/
def Obligations.ConditionLawKept : Prop := ∀ s t : State, ConditionLaw s → step s = .next t → ConditionLaw t

/-- Every step keeps OPEN windows apart, within buffer memory, on multiples of their size (R78). -/
def Obligations.WindowLawKept : Prop := ∀ s t : State, WindowLaw s → step s = .next t → WindowLaw t

/-- Every step keeps at most one context for an exchange identity, an ask in flight for SENDING contexts alone, and the
linger order the list of the LINGERING slots (R140, R141, R143, R145, R156). -/
def Obligations.SlotLawKept : Prop := ∀ s t : State, SlotLaw s → step s = .next t → SlotLaw t

/-- The state after reset meets every law. -/
def Obligations.LawsAtReset : Prop :=
  MemoryLaw State.reset ∧ ArrivalLaw State.reset ∧ SelfLaw State.reset ∧ ConditionLaw State.reset ∧
    WindowLaw State.reset ∧ SlotLaw State.reset
end

