-- ==== Sys2Proof/Laws/State.lean ====
section
/-! SUPPORT. What each update of a block leaves in each field, and the entries read after an entry is written. -/

namespace Sys2Proof.Machine

variable (s : State)

/-! ### Each field after each update -/

@[simp] theorem State.setPins_pins (x : Pins) : (s.setPins x).pins = x := rfl
@[simp] theorem State.setPins_lau (x : Pins) : (s.setPins x).lau = s.lau := rfl
@[simp] theorem State.setPins_rx (x : Pins) : (s.setPins x).rx = s.rx := rfl
@[simp] theorem State.setPins_station (x : Pins) : (s.setPins x).station = s.station := rfl
@[simp] theorem State.setPins_peers (x : Pins) : (s.setPins x).peers = s.peers := rfl
@[simp] theorem State.setPins_windows (x : Pins) : (s.setPins x).windows = s.windows := rfl
@[simp] theorem State.setPins_chans (x : Pins) : (s.setPins x).chans = s.chans := rfl
@[simp] theorem State.setPins_ctxs (x : Pins) : (s.setPins x).ctxs = s.ctxs := rfl
@[simp] theorem State.setPins_buffer (x : Pins) : (s.setPins x).buffer = s.buffer := rfl
@[simp] theorem State.setPins_arrivals (x : Pins) : (s.setPins x).arrivals = s.arrivals := rfl
@[simp] theorem State.setPins_port (x : Pins) : (s.setPins x).port = s.port := rfl
@[simp] theorem State.setPins_freeCount (x : Pins) : (s.setPins x).freeCount = s.freeCount := rfl
@[simp] theorem State.setPins_pending (x : Pins) : (s.setPins x).pending = s.pending := rfl
@[simp] theorem State.setPins_peer (x : Pins) (q : StationNo) : (s.setPins x).peer q = s.peer q := rfl
@[simp] theorem State.setPins_window (x : Pins) (v : Fin 8) : (s.setPins x).window v = s.window v := rfl
@[simp] theorem State.setPins_channel (x : Pins) (d : ChannelNo) : (s.setPins x).channel d = s.channel d := rfl
@[simp] theorem State.setPins_context (x : Pins) (j : SlotNo) : (s.setPins x).context j = s.context j := rfl
@[simp] theorem State.setLau_pins (x : Lau) : (s.setLau x).pins = s.pins := rfl
@[simp] theorem State.setLau_lau (x : Lau) : (s.setLau x).lau = x := rfl
@[simp] theorem State.setLau_rx (x : Lau) : (s.setLau x).rx = s.rx := rfl
@[simp] theorem State.setLau_station (x : Lau) : (s.setLau x).station = s.station := rfl
@[simp] theorem State.setLau_peers (x : Lau) : (s.setLau x).peers = s.peers := rfl
@[simp] theorem State.setLau_windows (x : Lau) : (s.setLau x).windows = s.windows := rfl
@[simp] theorem State.setLau_chans (x : Lau) : (s.setLau x).chans = s.chans := rfl
@[simp] theorem State.setLau_ctxs (x : Lau) : (s.setLau x).ctxs = s.ctxs := rfl
@[simp] theorem State.setLau_buffer (x : Lau) : (s.setLau x).buffer = s.buffer := rfl
@[simp] theorem State.setLau_arrivals (x : Lau) : (s.setLau x).arrivals = s.arrivals := rfl
@[simp] theorem State.setLau_port (x : Lau) : (s.setLau x).port = s.port := rfl
@[simp] theorem State.setLau_freeCount (x : Lau) : (s.setLau x).freeCount = s.freeCount := rfl
@[simp] theorem State.setLau_pending (x : Lau) : (s.setLau x).pending = s.pending := rfl
@[simp] theorem State.setLau_peer (x : Lau) (q : StationNo) : (s.setLau x).peer q = s.peer q := rfl
@[simp] theorem State.setLau_window (x : Lau) (v : Fin 8) : (s.setLau x).window v = s.window v := rfl
@[simp] theorem State.setLau_channel (x : Lau) (d : ChannelNo) : (s.setLau x).channel d = s.channel d := rfl
@[simp] theorem State.setLau_context (x : Lau) (j : SlotNo) : (s.setLau x).context j = s.context j := rfl
@[simp] theorem State.setRx_pins (x : List Byte) : (s.setRx x).pins = s.pins := rfl
@[simp] theorem State.setRx_lau (x : List Byte) : (s.setRx x).lau = s.lau := rfl
@[simp] theorem State.setRx_rx (x : List Byte) : (s.setRx x).rx = x := rfl
@[simp] theorem State.setRx_station (x : List Byte) : (s.setRx x).station = s.station := rfl
@[simp] theorem State.setRx_peers (x : List Byte) : (s.setRx x).peers = s.peers := rfl
@[simp] theorem State.setRx_windows (x : List Byte) : (s.setRx x).windows = s.windows := rfl
@[simp] theorem State.setRx_chans (x : List Byte) : (s.setRx x).chans = s.chans := rfl
@[simp] theorem State.setRx_ctxs (x : List Byte) : (s.setRx x).ctxs = s.ctxs := rfl
@[simp] theorem State.setRx_buffer (x : List Byte) : (s.setRx x).buffer = s.buffer := rfl
@[simp] theorem State.setRx_arrivals (x : List Byte) : (s.setRx x).arrivals = s.arrivals := rfl
@[simp] theorem State.setRx_port (x : List Byte) : (s.setRx x).port = s.port := rfl
@[simp] theorem State.setRx_freeCount (x : List Byte) : (s.setRx x).freeCount = s.freeCount := rfl
@[simp] theorem State.setRx_pending (x : List Byte) : (s.setRx x).pending = s.pending := rfl
@[simp] theorem State.setRx_peer (x : List Byte) (q : StationNo) : (s.setRx x).peer q = s.peer q := rfl
@[simp] theorem State.setRx_window (x : List Byte) (v : Fin 8) : (s.setRx x).window v = s.window v := rfl
@[simp] theorem State.setRx_channel (x : List Byte) (d : ChannelNo) : (s.setRx x).channel d = s.channel d := rfl
@[simp] theorem State.setRx_context (x : List Byte) (j : SlotNo) : (s.setRx x).context j = s.context j := rfl
@[simp] theorem State.setStation_pins (x : Station) : (s.setStation x).pins = s.pins := rfl
@[simp] theorem State.setStation_lau (x : Station) : (s.setStation x).lau = s.lau := rfl
@[simp] theorem State.setStation_rx (x : Station) : (s.setStation x).rx = s.rx := rfl
@[simp] theorem State.setStation_station (x : Station) : (s.setStation x).station = x := rfl
@[simp] theorem State.setStation_peers (x : Station) : (s.setStation x).peers = s.peers := rfl
@[simp] theorem State.setStation_windows (x : Station) : (s.setStation x).windows = s.windows := rfl
@[simp] theorem State.setStation_chans (x : Station) : (s.setStation x).chans = s.chans := rfl
@[simp] theorem State.setStation_ctxs (x : Station) : (s.setStation x).ctxs = s.ctxs := rfl
@[simp] theorem State.setStation_buffer (x : Station) : (s.setStation x).buffer = s.buffer := rfl
@[simp] theorem State.setStation_arrivals (x : Station) : (s.setStation x).arrivals = s.arrivals := rfl
@[simp] theorem State.setStation_port (x : Station) : (s.setStation x).port = s.port := rfl
@[simp] theorem State.setStation_freeCount (x : Station) : (s.setStation x).freeCount = s.freeCount := rfl
@[simp] theorem State.setStation_pending (x : Station) : (s.setStation x).pending = s.pending := rfl
@[simp] theorem State.setStation_peer (x : Station) (q : StationNo) : (s.setStation x).peer q = s.peer q := rfl
@[simp] theorem State.setStation_window (x : Station) (v : Fin 8) : (s.setStation x).window v = s.window v := rfl
@[simp] theorem State.setStation_channel (x : Station) (d : ChannelNo) : (s.setStation x).channel d = s.channel d := rfl
@[simp] theorem State.setStation_context (x : Station) (j : SlotNo) : (s.setStation x).context j = s.context j := rfl
@[simp] theorem State.setPeers_pins (x : PeerTable) : (s.setPeers x).pins = s.pins := rfl
@[simp] theorem State.setPeers_lau (x : PeerTable) : (s.setPeers x).lau = s.lau := rfl
@[simp] theorem State.setPeers_rx (x : PeerTable) : (s.setPeers x).rx = s.rx := rfl
@[simp] theorem State.setPeers_station (x : PeerTable) : (s.setPeers x).station = s.station := rfl
@[simp] theorem State.setPeers_peers (x : PeerTable) : (s.setPeers x).peers = x := rfl
@[simp] theorem State.setPeers_windows (x : PeerTable) : (s.setPeers x).windows = s.windows := rfl
@[simp] theorem State.setPeers_chans (x : PeerTable) : (s.setPeers x).chans = s.chans := rfl
@[simp] theorem State.setPeers_ctxs (x : PeerTable) : (s.setPeers x).ctxs = s.ctxs := rfl
@[simp] theorem State.setPeers_buffer (x : PeerTable) : (s.setPeers x).buffer = s.buffer := rfl
@[simp] theorem State.setPeers_arrivals (x : PeerTable) : (s.setPeers x).arrivals = s.arrivals := rfl
@[simp] theorem State.setPeers_port (x : PeerTable) : (s.setPeers x).port = s.port := rfl
@[simp] theorem State.setPeers_freeCount (x : PeerTable) : (s.setPeers x).freeCount = s.freeCount := rfl
@[simp] theorem State.setPeers_pending (x : PeerTable) : (s.setPeers x).pending = s.pending := rfl
@[simp] theorem State.setPeers_window (x : PeerTable) (v : Fin 8) : (s.setPeers x).window v = s.window v := rfl
@[simp] theorem State.setPeers_channel (x : PeerTable) (d : ChannelNo) : (s.setPeers x).channel d = s.channel d := rfl
@[simp] theorem State.setPeers_context (x : PeerTable) (j : SlotNo) : (s.setPeers x).context j = s.context j := rfl
@[simp] theorem State.setWindows_pins (x : Vector Window 8) : (s.setWindows x).pins = s.pins := rfl
@[simp] theorem State.setWindows_lau (x : Vector Window 8) : (s.setWindows x).lau = s.lau := rfl
@[simp] theorem State.setWindows_rx (x : Vector Window 8) : (s.setWindows x).rx = s.rx := rfl
@[simp] theorem State.setWindows_station (x : Vector Window 8) : (s.setWindows x).station = s.station := rfl
@[simp] theorem State.setWindows_peers (x : Vector Window 8) : (s.setWindows x).peers = s.peers := rfl
@[simp] theorem State.setWindows_windows (x : Vector Window 8) : (s.setWindows x).windows = x := rfl
@[simp] theorem State.setWindows_chans (x : Vector Window 8) : (s.setWindows x).chans = s.chans := rfl
@[simp] theorem State.setWindows_ctxs (x : Vector Window 8) : (s.setWindows x).ctxs = s.ctxs := rfl
@[simp] theorem State.setWindows_buffer (x : Vector Window 8) : (s.setWindows x).buffer = s.buffer := rfl
@[simp] theorem State.setWindows_arrivals (x : Vector Window 8) : (s.setWindows x).arrivals = s.arrivals := rfl
@[simp] theorem State.setWindows_port (x : Vector Window 8) : (s.setWindows x).port = s.port := rfl
@[simp] theorem State.setWindows_freeCount (x : Vector Window 8) : (s.setWindows x).freeCount = s.freeCount := rfl
@[simp] theorem State.setWindows_pending (x : Vector Window 8) : (s.setWindows x).pending = s.pending := rfl
@[simp] theorem State.setWindows_peer (x : Vector Window 8) (q : StationNo) : (s.setWindows x).peer q = s.peer q := rfl
@[simp] theorem State.setWindows_channel (x : Vector Window 8) (d : ChannelNo) : (s.setWindows x).channel d = s.channel d := rfl
@[simp] theorem State.setWindows_context (x : Vector Window 8) (j : SlotNo) : (s.setWindows x).context j = s.context j := rfl
@[simp] theorem State.setChans_pins (x : ChannelEngine) : (s.setChans x).pins = s.pins := rfl
@[simp] theorem State.setChans_lau (x : ChannelEngine) : (s.setChans x).lau = s.lau := rfl
@[simp] theorem State.setChans_rx (x : ChannelEngine) : (s.setChans x).rx = s.rx := rfl
@[simp] theorem State.setChans_station (x : ChannelEngine) : (s.setChans x).station = s.station := rfl
@[simp] theorem State.setChans_peers (x : ChannelEngine) : (s.setChans x).peers = s.peers := rfl
@[simp] theorem State.setChans_windows (x : ChannelEngine) : (s.setChans x).windows = s.windows := rfl
@[simp] theorem State.setChans_chans (x : ChannelEngine) : (s.setChans x).chans = x := rfl
@[simp] theorem State.setChans_ctxs (x : ChannelEngine) : (s.setChans x).ctxs = s.ctxs := rfl
@[simp] theorem State.setChans_buffer (x : ChannelEngine) : (s.setChans x).buffer = s.buffer := rfl
@[simp] theorem State.setChans_arrivals (x : ChannelEngine) : (s.setChans x).arrivals = s.arrivals := rfl
@[simp] theorem State.setChans_port (x : ChannelEngine) : (s.setChans x).port = s.port := rfl
@[simp] theorem State.setChans_freeCount (x : ChannelEngine) : (s.setChans x).freeCount = s.freeCount := rfl
@[simp] theorem State.setChans_pending (x : ChannelEngine) : (s.setChans x).pending = s.pending := rfl
@[simp] theorem State.setChans_peer (x : ChannelEngine) (q : StationNo) : (s.setChans x).peer q = s.peer q := rfl
@[simp] theorem State.setChans_window (x : ChannelEngine) (v : Fin 8) : (s.setChans x).window v = s.window v := rfl
@[simp] theorem State.setChans_context (x : ChannelEngine) (j : SlotNo) : (s.setChans x).context j = s.context j := rfl
@[simp] theorem State.setCtxs_pins (x : ResponderEngine) : (s.setCtxs x).pins = s.pins := rfl
@[simp] theorem State.setCtxs_lau (x : ResponderEngine) : (s.setCtxs x).lau = s.lau := rfl
@[simp] theorem State.setCtxs_rx (x : ResponderEngine) : (s.setCtxs x).rx = s.rx := rfl
@[simp] theorem State.setCtxs_station (x : ResponderEngine) : (s.setCtxs x).station = s.station := rfl
@[simp] theorem State.setCtxs_peers (x : ResponderEngine) : (s.setCtxs x).peers = s.peers := rfl
@[simp] theorem State.setCtxs_windows (x : ResponderEngine) : (s.setCtxs x).windows = s.windows := rfl
@[simp] theorem State.setCtxs_chans (x : ResponderEngine) : (s.setCtxs x).chans = s.chans := rfl
@[simp] theorem State.setCtxs_ctxs (x : ResponderEngine) : (s.setCtxs x).ctxs = x := rfl
@[simp] theorem State.setCtxs_buffer (x : ResponderEngine) : (s.setCtxs x).buffer = s.buffer := rfl
@[simp] theorem State.setCtxs_arrivals (x : ResponderEngine) : (s.setCtxs x).arrivals = s.arrivals := rfl
@[simp] theorem State.setCtxs_port (x : ResponderEngine) : (s.setCtxs x).port = s.port := rfl
@[simp] theorem State.setCtxs_freeCount (x : ResponderEngine) : (s.setCtxs x).freeCount = s.freeCount := rfl
@[simp] theorem State.setCtxs_pending (x : ResponderEngine) : (s.setCtxs x).pending = s.pending := rfl
@[simp] theorem State.setCtxs_peer (x : ResponderEngine) (q : StationNo) : (s.setCtxs x).peer q = s.peer q := rfl
@[simp] theorem State.setCtxs_window (x : ResponderEngine) (v : Fin 8) : (s.setCtxs x).window v = s.window v := rfl
@[simp] theorem State.setCtxs_channel (x : ResponderEngine) (d : ChannelNo) : (s.setCtxs x).channel d = s.channel d := rfl
@[simp] theorem State.setBuffer_pins (x : BufferMemory) : (s.setBuffer x).pins = s.pins := rfl
@[simp] theorem State.setBuffer_lau (x : BufferMemory) : (s.setBuffer x).lau = s.lau := rfl
@[simp] theorem State.setBuffer_rx (x : BufferMemory) : (s.setBuffer x).rx = s.rx := rfl
@[simp] theorem State.setBuffer_station (x : BufferMemory) : (s.setBuffer x).station = s.station := rfl
@[simp] theorem State.setBuffer_peers (x : BufferMemory) : (s.setBuffer x).peers = s.peers := rfl
@[simp] theorem State.setBuffer_windows (x : BufferMemory) : (s.setBuffer x).windows = s.windows := rfl
@[simp] theorem State.setBuffer_chans (x : BufferMemory) : (s.setBuffer x).chans = s.chans := rfl
@[simp] theorem State.setBuffer_ctxs (x : BufferMemory) : (s.setBuffer x).ctxs = s.ctxs := rfl
@[simp] theorem State.setBuffer_buffer (x : BufferMemory) : (s.setBuffer x).buffer = x := rfl
@[simp] theorem State.setBuffer_arrivals (x : BufferMemory) : (s.setBuffer x).arrivals = s.arrivals := rfl
@[simp] theorem State.setBuffer_port (x : BufferMemory) : (s.setBuffer x).port = s.port := rfl
@[simp] theorem State.setBuffer_freeCount (x : BufferMemory) : (s.setBuffer x).freeCount = s.freeCount := rfl
@[simp] theorem State.setBuffer_pending (x : BufferMemory) : (s.setBuffer x).pending = s.pending := rfl
@[simp] theorem State.setBuffer_peer (x : BufferMemory) (q : StationNo) : (s.setBuffer x).peer q = s.peer q := rfl
@[simp] theorem State.setBuffer_window (x : BufferMemory) (v : Fin 8) : (s.setBuffer x).window v = s.window v := rfl
@[simp] theorem State.setBuffer_channel (x : BufferMemory) (d : ChannelNo) : (s.setBuffer x).channel d = s.channel d := rfl
@[simp] theorem State.setBuffer_context (x : BufferMemory) (j : SlotNo) : (s.setBuffer x).context j = s.context j := rfl
@[simp] theorem State.setArrivals_pins (x : ArrivalQueue) : (s.setArrivals x).pins = s.pins := rfl
@[simp] theorem State.setArrivals_lau (x : ArrivalQueue) : (s.setArrivals x).lau = s.lau := rfl
@[simp] theorem State.setArrivals_rx (x : ArrivalQueue) : (s.setArrivals x).rx = s.rx := rfl
@[simp] theorem State.setArrivals_station (x : ArrivalQueue) : (s.setArrivals x).station = s.station := rfl
@[simp] theorem State.setArrivals_peers (x : ArrivalQueue) : (s.setArrivals x).peers = s.peers := rfl
@[simp] theorem State.setArrivals_windows (x : ArrivalQueue) : (s.setArrivals x).windows = s.windows := rfl
@[simp] theorem State.setArrivals_chans (x : ArrivalQueue) : (s.setArrivals x).chans = s.chans := rfl
@[simp] theorem State.setArrivals_ctxs (x : ArrivalQueue) : (s.setArrivals x).ctxs = s.ctxs := rfl
@[simp] theorem State.setArrivals_buffer (x : ArrivalQueue) : (s.setArrivals x).buffer = s.buffer := rfl
@[simp] theorem State.setArrivals_arrivals (x : ArrivalQueue) : (s.setArrivals x).arrivals = x := rfl
@[simp] theorem State.setArrivals_port (x : ArrivalQueue) : (s.setArrivals x).port = s.port := rfl
@[simp] theorem State.setArrivals_freeCount (x : ArrivalQueue) : (s.setArrivals x).freeCount = s.freeCount := rfl
@[simp] theorem State.setArrivals_pending (x : ArrivalQueue) : (s.setArrivals x).pending = s.pending := rfl
@[simp] theorem State.setArrivals_peer (x : ArrivalQueue) (q : StationNo) : (s.setArrivals x).peer q = s.peer q := rfl
@[simp] theorem State.setArrivals_window (x : ArrivalQueue) (v : Fin 8) : (s.setArrivals x).window v = s.window v := rfl
@[simp] theorem State.setArrivals_channel (x : ArrivalQueue) (d : ChannelNo) : (s.setArrivals x).channel d = s.channel d := rfl
@[simp] theorem State.setArrivals_context (x : ArrivalQueue) (j : SlotNo) : (s.setArrivals x).context j = s.context j := rfl
@[simp] theorem State.setPort_pins (x : HostPort) : (s.setPort x).pins = s.pins := rfl
@[simp] theorem State.setPort_lau (x : HostPort) : (s.setPort x).lau = s.lau := rfl
@[simp] theorem State.setPort_rx (x : HostPort) : (s.setPort x).rx = s.rx := rfl
@[simp] theorem State.setPort_station (x : HostPort) : (s.setPort x).station = s.station := rfl
@[simp] theorem State.setPort_peers (x : HostPort) : (s.setPort x).peers = s.peers := rfl
@[simp] theorem State.setPort_windows (x : HostPort) : (s.setPort x).windows = s.windows := rfl
@[simp] theorem State.setPort_chans (x : HostPort) : (s.setPort x).chans = s.chans := rfl
@[simp] theorem State.setPort_ctxs (x : HostPort) : (s.setPort x).ctxs = s.ctxs := rfl
@[simp] theorem State.setPort_buffer (x : HostPort) : (s.setPort x).buffer = s.buffer := rfl
@[simp] theorem State.setPort_arrivals (x : HostPort) : (s.setPort x).arrivals = s.arrivals := rfl
@[simp] theorem State.setPort_port (x : HostPort) : (s.setPort x).port = x := rfl
@[simp] theorem State.setPort_freeCount (x : HostPort) : (s.setPort x).freeCount = s.freeCount := rfl
@[simp] theorem State.setPort_pending (x : HostPort) : (s.setPort x).pending = s.pending := rfl
@[simp] theorem State.setPort_peer (x : HostPort) (q : StationNo) : (s.setPort x).peer q = s.peer q := rfl
@[simp] theorem State.setPort_window (x : HostPort) (v : Fin 8) : (s.setPort x).window v = s.window v := rfl
@[simp] theorem State.setPort_channel (x : HostPort) (d : ChannelNo) : (s.setPort x).channel d = s.channel d := rfl
@[simp] theorem State.setPort_context (x : HostPort) (j : SlotNo) : (s.setPort x).context j = s.context j := rfl
@[simp] theorem State.setFree_pins (x : Nat) : (s.setFree x).pins = s.pins := rfl
@[simp] theorem State.setFree_lau (x : Nat) : (s.setFree x).lau = s.lau := rfl
@[simp] theorem State.setFree_rx (x : Nat) : (s.setFree x).rx = s.rx := rfl
@[simp] theorem State.setFree_station (x : Nat) : (s.setFree x).station = s.station := rfl
@[simp] theorem State.setFree_peers (x : Nat) : (s.setFree x).peers = s.peers := rfl
@[simp] theorem State.setFree_windows (x : Nat) : (s.setFree x).windows = s.windows := rfl
@[simp] theorem State.setFree_chans (x : Nat) : (s.setFree x).chans = s.chans := rfl
@[simp] theorem State.setFree_ctxs (x : Nat) : (s.setFree x).ctxs = s.ctxs := rfl
@[simp] theorem State.setFree_buffer (x : Nat) : (s.setFree x).buffer = s.buffer := rfl
@[simp] theorem State.setFree_arrivals (x : Nat) : (s.setFree x).arrivals = s.arrivals := rfl
@[simp] theorem State.setFree_port (x : Nat) : (s.setFree x).port = s.port := rfl
@[simp] theorem State.setFree_freeCount (x : Nat) : (s.setFree x).freeCount = x := rfl
@[simp] theorem State.setFree_pending (x : Nat) : (s.setFree x).pending = s.pending := rfl
@[simp] theorem State.setFree_peer (x : Nat) (q : StationNo) : (s.setFree x).peer q = s.peer q := rfl
@[simp] theorem State.setFree_window (x : Nat) (v : Fin 8) : (s.setFree x).window v = s.window v := rfl
@[simp] theorem State.setFree_channel (x : Nat) (d : ChannelNo) : (s.setFree x).channel d = s.channel d := rfl
@[simp] theorem State.setFree_context (x : Nat) (j : SlotNo) : (s.setFree x).context j = s.context j := rfl

/-! ### Each field after each update of a part -/

@[simp] theorem State.setPhase_pins (p : Phase) : (s.setPhase p).pins = s.pins := rfl
@[simp] theorem State.setPhase_lau (p : Phase) : (s.setPhase p).lau = { s.lau with phase := p } := rfl
@[simp] theorem State.setPhase_rx (p : Phase) : (s.setPhase p).rx = s.rx := rfl
@[simp] theorem State.setPhase_station (p : Phase) : (s.setPhase p).station = s.station := rfl
@[simp] theorem State.setPhase_peers (p : Phase) : (s.setPhase p).peers = s.peers := rfl
@[simp] theorem State.setPhase_windows (p : Phase) : (s.setPhase p).windows = s.windows := rfl
@[simp] theorem State.setPhase_chans (p : Phase) : (s.setPhase p).chans = s.chans := rfl
@[simp] theorem State.setPhase_ctxs (p : Phase) : (s.setPhase p).ctxs = s.ctxs := rfl
@[simp] theorem State.setPhase_buffer (p : Phase) : (s.setPhase p).buffer = s.buffer := rfl
@[simp] theorem State.setPhase_arrivals (p : Phase) : (s.setPhase p).arrivals = s.arrivals := rfl
@[simp] theorem State.setPhase_port (p : Phase) : (s.setPhase p).port = s.port := rfl
@[simp] theorem State.setPhase_freeCount (p : Phase) : (s.setPhase p).freeCount = s.freeCount := rfl
@[simp] theorem State.setPhase_pending (p : Phase) : (s.setPhase p).pending = s.pending := rfl
@[simp] theorem State.setPhase_peer (p : Phase) (q : StationNo) : (s.setPhase p).peer q = s.peer q := rfl
@[simp] theorem State.setPhase_window (p : Phase) (v : Fin 8) : (s.setPhase p).window v = s.window v := rfl
@[simp] theorem State.setPhase_channel (p : Phase) (d : ChannelNo) : (s.setPhase p).channel d = s.channel d := rfl
@[simp] theorem State.setPhase_context (p : Phase) (j : SlotNo) : (s.setPhase p).context j = s.context j := rfl
@[simp] theorem State.setAsk_pins (a : Option Ask) : (s.setAsk a).pins = s.pins := rfl
@[simp] theorem State.setAsk_lau (a : Option Ask) : (s.setAsk a).lau = { s.lau with ask := a } := rfl
@[simp] theorem State.setAsk_rx (a : Option Ask) : (s.setAsk a).rx = s.rx := rfl
@[simp] theorem State.setAsk_station (a : Option Ask) : (s.setAsk a).station = s.station := rfl
@[simp] theorem State.setAsk_peers (a : Option Ask) : (s.setAsk a).peers = s.peers := rfl
@[simp] theorem State.setAsk_windows (a : Option Ask) : (s.setAsk a).windows = s.windows := rfl
@[simp] theorem State.setAsk_chans (a : Option Ask) : (s.setAsk a).chans = s.chans := rfl
@[simp] theorem State.setAsk_ctxs (a : Option Ask) : (s.setAsk a).ctxs = s.ctxs := rfl
@[simp] theorem State.setAsk_buffer (a : Option Ask) : (s.setAsk a).buffer = s.buffer := rfl
@[simp] theorem State.setAsk_arrivals (a : Option Ask) : (s.setAsk a).arrivals = s.arrivals := rfl
@[simp] theorem State.setAsk_port (a : Option Ask) : (s.setAsk a).port = s.port := rfl
@[simp] theorem State.setAsk_freeCount (a : Option Ask) : (s.setAsk a).freeCount = s.freeCount := rfl
@[simp] theorem State.setAsk_pending (a : Option Ask) : (s.setAsk a).pending = s.pending := rfl
@[simp] theorem State.setAsk_peer (a : Option Ask) (q : StationNo) : (s.setAsk a).peer q = s.peer q := rfl
@[simp] theorem State.setAsk_window (a : Option Ask) (v : Fin 8) : (s.setAsk a).window v = s.window v := rfl
@[simp] theorem State.setAsk_channel (a : Option Ask) (d : ChannelNo) : (s.setAsk a).channel d = s.channel d := rfl
@[simp] theorem State.setAsk_context (a : Option Ask) (j : SlotNo) : (s.setAsk a).context j = s.context j := rfl
@[simp] theorem State.setAnswer_pins (a : Option Frame) : (s.setAnswer a).pins = s.pins := rfl
@[simp] theorem State.setAnswer_lau (a : Option Frame) : (s.setAnswer a).lau = { s.lau with answer := a } := rfl
@[simp] theorem State.setAnswer_rx (a : Option Frame) : (s.setAnswer a).rx = s.rx := rfl
@[simp] theorem State.setAnswer_station (a : Option Frame) : (s.setAnswer a).station = s.station := rfl
@[simp] theorem State.setAnswer_peers (a : Option Frame) : (s.setAnswer a).peers = s.peers := rfl
@[simp] theorem State.setAnswer_windows (a : Option Frame) : (s.setAnswer a).windows = s.windows := rfl
@[simp] theorem State.setAnswer_chans (a : Option Frame) : (s.setAnswer a).chans = s.chans := rfl
@[simp] theorem State.setAnswer_ctxs (a : Option Frame) : (s.setAnswer a).ctxs = s.ctxs := rfl
@[simp] theorem State.setAnswer_buffer (a : Option Frame) : (s.setAnswer a).buffer = s.buffer := rfl
@[simp] theorem State.setAnswer_arrivals (a : Option Frame) : (s.setAnswer a).arrivals = s.arrivals := rfl
@[simp] theorem State.setAnswer_port (a : Option Frame) : (s.setAnswer a).port = s.port := rfl
@[simp] theorem State.setAnswer_freeCount (a : Option Frame) : (s.setAnswer a).freeCount = s.freeCount := rfl
@[simp] theorem State.setAnswer_pending (a : Option Frame) : (s.setAnswer a).pending = s.pending := rfl
@[simp] theorem State.setAnswer_peer (a : Option Frame) (q : StationNo) : (s.setAnswer a).peer q = s.peer q := rfl
@[simp] theorem State.setAnswer_window (a : Option Frame) (v : Fin 8) : (s.setAnswer a).window v = s.window v := rfl
@[simp] theorem State.setAnswer_channel (a : Option Frame) (d : ChannelNo) : (s.setAnswer a).channel d = s.channel d := rfl
@[simp] theorem State.setAnswer_context (a : Option Frame) (j : SlotNo) : (s.setAnswer a).context j = s.context j := rfl
@[simp] theorem State.setL_pins (l : StationNo) (r : Bool) : (s.setL l r).pins = s.pins := rfl
@[simp] theorem State.setL_lau (l : StationNo) (r : Bool) : (s.setL l r).lau = { s.lau with last := some l, recovery := r } := rfl
@[simp] theorem State.setL_rx (l : StationNo) (r : Bool) : (s.setL l r).rx = s.rx := rfl
@[simp] theorem State.setL_station (l : StationNo) (r : Bool) : (s.setL l r).station = s.station := rfl
@[simp] theorem State.setL_peers (l : StationNo) (r : Bool) : (s.setL l r).peers = s.peers := rfl
@[simp] theorem State.setL_windows (l : StationNo) (r : Bool) : (s.setL l r).windows = s.windows := rfl
@[simp] theorem State.setL_chans (l : StationNo) (r : Bool) : (s.setL l r).chans = s.chans := rfl
@[simp] theorem State.setL_ctxs (l : StationNo) (r : Bool) : (s.setL l r).ctxs = s.ctxs := rfl
@[simp] theorem State.setL_buffer (l : StationNo) (r : Bool) : (s.setL l r).buffer = s.buffer := rfl
@[simp] theorem State.setL_arrivals (l : StationNo) (r : Bool) : (s.setL l r).arrivals = s.arrivals := rfl
@[simp] theorem State.setL_port (l : StationNo) (r : Bool) : (s.setL l r).port = s.port := rfl
@[simp] theorem State.setL_freeCount (l : StationNo) (r : Bool) : (s.setL l r).freeCount = s.freeCount := rfl
@[simp] theorem State.setL_pending (l : StationNo) (r : Bool) : (s.setL l r).pending = s.pending := rfl
@[simp] theorem State.setL_peer (l : StationNo) (r : Bool) (q : StationNo) : (s.setL l r).peer q = s.peer q := rfl
@[simp] theorem State.setL_window (l : StationNo) (r : Bool) (v : Fin 8) : (s.setL l r).window v = s.window v := rfl
@[simp] theorem State.setL_channel (l : StationNo) (r : Bool) (d : ChannelNo) : (s.setL l r).channel d = s.channel d := rfl
@[simp] theorem State.setL_context (l : StationNo) (r : Bool) (j : SlotNo) : (s.setL l r).context j = s.context j := rfl
@[simp] theorem State.setLineActive_pins (b : Bool) : (s.setLineActive b).pins = { s.pins with lineActive := b } := rfl
@[simp] theorem State.setLineActive_lau (b : Bool) : (s.setLineActive b).lau = s.lau := rfl
@[simp] theorem State.setLineActive_rx (b : Bool) : (s.setLineActive b).rx = s.rx := rfl
@[simp] theorem State.setLineActive_station (b : Bool) : (s.setLineActive b).station = s.station := rfl
@[simp] theorem State.setLineActive_peers (b : Bool) : (s.setLineActive b).peers = s.peers := rfl
@[simp] theorem State.setLineActive_windows (b : Bool) : (s.setLineActive b).windows = s.windows := rfl
@[simp] theorem State.setLineActive_chans (b : Bool) : (s.setLineActive b).chans = s.chans := rfl
@[simp] theorem State.setLineActive_ctxs (b : Bool) : (s.setLineActive b).ctxs = s.ctxs := rfl
@[simp] theorem State.setLineActive_buffer (b : Bool) : (s.setLineActive b).buffer = s.buffer := rfl
@[simp] theorem State.setLineActive_arrivals (b : Bool) : (s.setLineActive b).arrivals = s.arrivals := rfl
@[simp] theorem State.setLineActive_port (b : Bool) : (s.setLineActive b).port = s.port := rfl
@[simp] theorem State.setLineActive_freeCount (b : Bool) : (s.setLineActive b).freeCount = s.freeCount := rfl
@[simp] theorem State.setLineActive_pending (b : Bool) : (s.setLineActive b).pending = s.pending := rfl
@[simp] theorem State.setLineActive_peer (b : Bool) (q : StationNo) : (s.setLineActive b).peer q = s.peer q := rfl
@[simp] theorem State.setLineActive_window (b : Bool) (v : Fin 8) : (s.setLineActive b).window v = s.window v := rfl
@[simp] theorem State.setLineActive_channel (b : Bool) (d : ChannelNo) : (s.setLineActive b).channel d = s.channel d := rfl
@[simp] theorem State.setLineActive_context (b : Bool) (j : SlotNo) : (s.setLineActive b).context j = s.context j := rfl
@[simp] theorem State.setCells_pins (m : List Host.Cell) : (s.setCells m).pins = s.pins := rfl
@[simp] theorem State.setCells_lau (m : List Host.Cell) : (s.setCells m).lau = s.lau := rfl
@[simp] theorem State.setCells_rx (m : List Host.Cell) : (s.setCells m).rx = s.rx := rfl
@[simp] theorem State.setCells_station (m : List Host.Cell) : (s.setCells m).station = s.station := rfl
@[simp] theorem State.setCells_peers (m : List Host.Cell) : (s.setCells m).peers = s.peers := rfl
@[simp] theorem State.setCells_windows (m : List Host.Cell) : (s.setCells m).windows = s.windows := rfl
@[simp] theorem State.setCells_chans (m : List Host.Cell) : (s.setCells m).chans = s.chans := rfl
@[simp] theorem State.setCells_ctxs (m : List Host.Cell) : (s.setCells m).ctxs = s.ctxs := rfl
@[simp] theorem State.setCells_buffer (m : List Host.Cell) : (s.setCells m).buffer = { s.buffer with cells := m } := rfl
@[simp] theorem State.setCells_arrivals (m : List Host.Cell) : (s.setCells m).arrivals = s.arrivals := rfl
@[simp] theorem State.setCells_port (m : List Host.Cell) : (s.setCells m).port = s.port := rfl
@[simp] theorem State.setCells_freeCount (m : List Host.Cell) : (s.setCells m).freeCount = s.freeCount := rfl
@[simp] theorem State.setCells_pending (m : List Host.Cell) : (s.setCells m).pending = s.pending := rfl
@[simp] theorem State.setCells_peer (m : List Host.Cell) (q : StationNo) : (s.setCells m).peer q = s.peer q := rfl
@[simp] theorem State.setCells_window (m : List Host.Cell) (v : Fin 8) : (s.setCells m).window v = s.window v := rfl
@[simp] theorem State.setCells_channel (m : List Host.Cell) (d : ChannelNo) : (s.setCells m).channel d = s.channel d := rfl
@[simp] theorem State.setCells_context (m : List Host.Cell) (j : SlotNo) : (s.setCells m).context j = s.context j := rfl
@[simp] theorem State.setArbiter_pins (c : Claimant) : (s.setArbiter c).pins = s.pins := rfl
@[simp] theorem State.setArbiter_lau (c : Claimant) : (s.setArbiter c).lau = s.lau := rfl
@[simp] theorem State.setArbiter_rx (c : Claimant) : (s.setArbiter c).rx = s.rx := rfl
@[simp] theorem State.setArbiter_station (c : Claimant) : (s.setArbiter c).station = s.station := rfl
@[simp] theorem State.setArbiter_peers (c : Claimant) : (s.setArbiter c).peers = s.peers := rfl
@[simp] theorem State.setArbiter_windows (c : Claimant) : (s.setArbiter c).windows = s.windows := rfl
@[simp] theorem State.setArbiter_chans (c : Claimant) : (s.setArbiter c).chans = s.chans := rfl
@[simp] theorem State.setArbiter_ctxs (c : Claimant) : (s.setArbiter c).ctxs = s.ctxs := rfl
@[simp] theorem State.setArbiter_buffer (c : Claimant) : (s.setArbiter c).buffer = { s.buffer with pointer := c } := rfl
@[simp] theorem State.setArbiter_arrivals (c : Claimant) : (s.setArbiter c).arrivals = s.arrivals := rfl
@[simp] theorem State.setArbiter_port (c : Claimant) : (s.setArbiter c).port = s.port := rfl
@[simp] theorem State.setArbiter_freeCount (c : Claimant) : (s.setArbiter c).freeCount = s.freeCount := rfl
@[simp] theorem State.setArbiter_pending (c : Claimant) : (s.setArbiter c).pending = s.pending := rfl
@[simp] theorem State.setArbiter_peer (c : Claimant) (q : StationNo) : (s.setArbiter c).peer q = s.peer q := rfl
@[simp] theorem State.setArbiter_window (c : Claimant) (v : Fin 8) : (s.setArbiter c).window v = s.window v := rfl
@[simp] theorem State.setArbiter_channel (c : Claimant) (d : ChannelNo) : (s.setArbiter c).channel d = s.channel d := rfl
@[simp] theorem State.setArbiter_context (c : Claimant) (j : SlotNo) : (s.setArbiter c).context j = s.context j := rfl
@[simp] theorem State.setNotices_pins (n : Notices) : (s.setNotices n).pins = s.pins := rfl
@[simp] theorem State.setNotices_lau (n : Notices) : (s.setNotices n).lau = s.lau := rfl
@[simp] theorem State.setNotices_rx (n : Notices) : (s.setNotices n).rx = s.rx := rfl
@[simp] theorem State.setNotices_station (n : Notices) : (s.setNotices n).station = s.station := rfl
@[simp] theorem State.setNotices_peers (n : Notices) : (s.setNotices n).peers = s.peers := rfl
@[simp] theorem State.setNotices_windows (n : Notices) : (s.setNotices n).windows = s.windows := rfl
@[simp] theorem State.setNotices_chans (n : Notices) : (s.setNotices n).chans = s.chans := rfl
@[simp] theorem State.setNotices_ctxs (n : Notices) : (s.setNotices n).ctxs = s.ctxs := rfl
@[simp] theorem State.setNotices_buffer (n : Notices) : (s.setNotices n).buffer = s.buffer := rfl
@[simp] theorem State.setNotices_arrivals (n : Notices) : (s.setNotices n).arrivals = s.arrivals := rfl
@[simp] theorem State.setNotices_port (n : Notices) : (s.setNotices n).port = { s.port with notices := n } := rfl
@[simp] theorem State.setNotices_freeCount (n : Notices) : (s.setNotices n).freeCount = s.freeCount := rfl
@[simp] theorem State.setNotices_pending (n : Notices) : (s.setNotices n).pending = s.pending := rfl
@[simp] theorem State.setNotices_peer (n : Notices) (q : StationNo) : (s.setNotices n).peer q = s.peer q := rfl
@[simp] theorem State.setNotices_window (n : Notices) (v : Fin 8) : (s.setNotices n).window v = s.window v := rfl
@[simp] theorem State.setNotices_channel (n : Notices) (d : ChannelNo) : (s.setNotices n).channel d = s.channel d := rfl
@[simp] theorem State.setNotices_context (n : Notices) (j : SlotNo) : (s.setNotices n).context j = s.context j := rfl
@[simp] theorem State.setPeer_pins (p : StationNo) (x : Peer) : (s.setPeer p x).pins = s.pins := rfl
@[simp] theorem State.setPeer_lau (p : StationNo) (x : Peer) : (s.setPeer p x).lau = s.lau := rfl
@[simp] theorem State.setPeer_rx (p : StationNo) (x : Peer) : (s.setPeer p x).rx = s.rx := rfl
@[simp] theorem State.setPeer_station (p : StationNo) (x : Peer) : (s.setPeer p x).station = s.station := rfl
@[simp] theorem State.setPeer_peers (p : StationNo) (x : Peer) : (s.setPeer p x).peers = { s.peers with entries := s.peers.entries.set p.val x } := rfl
@[simp] theorem State.setPeer_windows (p : StationNo) (x : Peer) : (s.setPeer p x).windows = s.windows := rfl
@[simp] theorem State.setPeer_chans (p : StationNo) (x : Peer) : (s.setPeer p x).chans = s.chans := rfl
@[simp] theorem State.setPeer_ctxs (p : StationNo) (x : Peer) : (s.setPeer p x).ctxs = s.ctxs := rfl
@[simp] theorem State.setPeer_buffer (p : StationNo) (x : Peer) : (s.setPeer p x).buffer = s.buffer := rfl
@[simp] theorem State.setPeer_arrivals (p : StationNo) (x : Peer) : (s.setPeer p x).arrivals = s.arrivals := rfl
@[simp] theorem State.setPeer_port (p : StationNo) (x : Peer) : (s.setPeer p x).port = s.port := rfl
@[simp] theorem State.setPeer_freeCount (p : StationNo) (x : Peer) : (s.setPeer p x).freeCount = s.freeCount := rfl
@[simp] theorem State.setPeer_pending (p : StationNo) (x : Peer) : (s.setPeer p x).pending = s.pending := rfl
@[simp] theorem State.setPeer_window (p : StationNo) (x : Peer) (v : Fin 8) : (s.setPeer p x).window v = s.window v := rfl
@[simp] theorem State.setPeer_channel (p : StationNo) (x : Peer) (d : ChannelNo) : (s.setPeer p x).channel d = s.channel d := rfl
@[simp] theorem State.setPeer_context (p : StationNo) (x : Peer) (j : SlotNo) : (s.setPeer p x).context j = s.context j := rfl
@[simp] theorem State.setWindow_pins (w : Fin 8) (x : Window) : (s.setWindow w x).pins = s.pins := rfl
@[simp] theorem State.setWindow_lau (w : Fin 8) (x : Window) : (s.setWindow w x).lau = s.lau := rfl
@[simp] theorem State.setWindow_rx (w : Fin 8) (x : Window) : (s.setWindow w x).rx = s.rx := rfl
@[simp] theorem State.setWindow_station (w : Fin 8) (x : Window) : (s.setWindow w x).station = s.station := rfl
@[simp] theorem State.setWindow_peers (w : Fin 8) (x : Window) : (s.setWindow w x).peers = s.peers := rfl
@[simp] theorem State.setWindow_windows (w : Fin 8) (x : Window) : (s.setWindow w x).windows = s.windows.set w.val x := rfl
@[simp] theorem State.setWindow_chans (w : Fin 8) (x : Window) : (s.setWindow w x).chans = s.chans := rfl
@[simp] theorem State.setWindow_ctxs (w : Fin 8) (x : Window) : (s.setWindow w x).ctxs = s.ctxs := rfl
@[simp] theorem State.setWindow_buffer (w : Fin 8) (x : Window) : (s.setWindow w x).buffer = s.buffer := rfl
@[simp] theorem State.setWindow_arrivals (w : Fin 8) (x : Window) : (s.setWindow w x).arrivals = s.arrivals := rfl
@[simp] theorem State.setWindow_port (w : Fin 8) (x : Window) : (s.setWindow w x).port = s.port := rfl
@[simp] theorem State.setWindow_freeCount (w : Fin 8) (x : Window) : (s.setWindow w x).freeCount = s.freeCount := rfl
@[simp] theorem State.setWindow_pending (w : Fin 8) (x : Window) : (s.setWindow w x).pending = s.pending := rfl
@[simp] theorem State.setWindow_peer (w : Fin 8) (x : Window) (q : StationNo) : (s.setWindow w x).peer q = s.peer q := rfl
@[simp] theorem State.setWindow_channel (w : Fin 8) (x : Window) (d : ChannelNo) : (s.setWindow w x).channel d = s.channel d := rfl
@[simp] theorem State.setWindow_context (w : Fin 8) (x : Window) (j : SlotNo) : (s.setWindow w x).context j = s.context j := rfl
@[simp] theorem State.setChannel_pins (c : ChannelNo) (x : Channel) : (s.setChannel c x).pins = s.pins := rfl
@[simp] theorem State.setChannel_lau (c : ChannelNo) (x : Channel) : (s.setChannel c x).lau = s.lau := rfl
@[simp] theorem State.setChannel_rx (c : ChannelNo) (x : Channel) : (s.setChannel c x).rx = s.rx := rfl
@[simp] theorem State.setChannel_station (c : ChannelNo) (x : Channel) : (s.setChannel c x).station = s.station := rfl
@[simp] theorem State.setChannel_peers (c : ChannelNo) (x : Channel) : (s.setChannel c x).peers = s.peers := rfl
@[simp] theorem State.setChannel_windows (c : ChannelNo) (x : Channel) : (s.setChannel c x).windows = s.windows := rfl
@[simp] theorem State.setChannel_chans (c : ChannelNo) (x : Channel) : (s.setChannel c x).chans = { s.chans with recs := s.chans.recs.set c.val x } := rfl
@[simp] theorem State.setChannel_ctxs (c : ChannelNo) (x : Channel) : (s.setChannel c x).ctxs = s.ctxs := rfl
@[simp] theorem State.setChannel_buffer (c : ChannelNo) (x : Channel) : (s.setChannel c x).buffer = s.buffer := rfl
@[simp] theorem State.setChannel_arrivals (c : ChannelNo) (x : Channel) : (s.setChannel c x).arrivals = s.arrivals := rfl
@[simp] theorem State.setChannel_port (c : ChannelNo) (x : Channel) : (s.setChannel c x).port = s.port := rfl
@[simp] theorem State.setChannel_freeCount (c : ChannelNo) (x : Channel) : (s.setChannel c x).freeCount = s.freeCount := rfl
@[simp] theorem State.setChannel_pending (c : ChannelNo) (x : Channel) : (s.setChannel c x).pending = s.pending := rfl
@[simp] theorem State.setChannel_peer (c : ChannelNo) (x : Channel) (q : StationNo) : (s.setChannel c x).peer q = s.peer q := rfl
@[simp] theorem State.setChannel_window (c : ChannelNo) (x : Channel) (v : Fin 8) : (s.setChannel c x).window v = s.window v := rfl
@[simp] theorem State.setChannel_context (c : ChannelNo) (x : Channel) (j : SlotNo) : (s.setChannel c x).context j = s.context j := rfl
@[simp] theorem State.setContext_pins (k : SlotNo) (x : Context) : (s.setContext k x).pins = s.pins := rfl
@[simp] theorem State.setContext_lau (k : SlotNo) (x : Context) : (s.setContext k x).lau = s.lau := rfl
@[simp] theorem State.setContext_rx (k : SlotNo) (x : Context) : (s.setContext k x).rx = s.rx := rfl
@[simp] theorem State.setContext_station (k : SlotNo) (x : Context) : (s.setContext k x).station = s.station := rfl
@[simp] theorem State.setContext_peers (k : SlotNo) (x : Context) : (s.setContext k x).peers = s.peers := rfl
@[simp] theorem State.setContext_windows (k : SlotNo) (x : Context) : (s.setContext k x).windows = s.windows := rfl
@[simp] theorem State.setContext_chans (k : SlotNo) (x : Context) : (s.setContext k x).chans = s.chans := rfl
@[simp] theorem State.setContext_ctxs (k : SlotNo) (x : Context) : (s.setContext k x).ctxs = { s.ctxs with slots := s.ctxs.slots.set k.val x } := rfl
@[simp] theorem State.setContext_buffer (k : SlotNo) (x : Context) : (s.setContext k x).buffer = s.buffer := rfl
@[simp] theorem State.setContext_arrivals (k : SlotNo) (x : Context) : (s.setContext k x).arrivals = s.arrivals := rfl
@[simp] theorem State.setContext_port (k : SlotNo) (x : Context) : (s.setContext k x).port = s.port := rfl
@[simp] theorem State.setContext_freeCount (k : SlotNo) (x : Context) : (s.setContext k x).freeCount = s.freeCount := rfl
@[simp] theorem State.setContext_pending (k : SlotNo) (x : Context) : (s.setContext k x).pending = s.pending := rfl
@[simp] theorem State.setContext_peer (k : SlotNo) (x : Context) (q : StationNo) : (s.setContext k x).peer q = s.peer q := rfl
@[simp] theorem State.setContext_window (k : SlotNo) (x : Context) (v : Fin 8) : (s.setContext k x).window v = s.window v := rfl
@[simp] theorem State.setContext_channel (k : SlotNo) (x : Context) (d : ChannelNo) : (s.setContext k x).channel d = s.channel d := rfl

/-! ### Entries after an entry is written -/

@[simp] theorem State.setPeer_peer_same (i : StationNo) (x : Peer) : (s.setPeer i x).peer i = x := by
  simp [State.setPeer, State.peer]
theorem State.setPeer_peer_other (i j : StationNo) (x : Peer) (h : j ≠ i) : (s.setPeer i x).peer j = s.peer j := by
  have h' : i.val ≠ j.val := fun e => h (Fin.ext e.symm)
  simp [State.setPeer, State.peer, h']
theorem State.setPeer_peer (i j : StationNo) (x : Peer) : (s.setPeer i x).peer j = if j = i then x else s.peer j := by
  by_cases h : j = i
  · subst h; simp
  · simp [h, State.setPeer_peer_other s i j x h]
@[simp] theorem State.setWindow_window_same (i : Fin 8) (x : Window) : (s.setWindow i x).window i = x := by
  simp [State.setWindow, State.window]
theorem State.setWindow_window_other (i j : Fin 8) (x : Window) (h : j ≠ i) : (s.setWindow i x).window j = s.window j := by
  have h' : i.val ≠ j.val := fun e => h (Fin.ext e.symm)
  simp [State.setWindow, State.window, h']
theorem State.setWindow_window (i j : Fin 8) (x : Window) : (s.setWindow i x).window j = if j = i then x else s.window j := by
  by_cases h : j = i
  · subst h; simp
  · simp [h, State.setWindow_window_other s i j x h]
@[simp] theorem State.setChannel_channel_same (i : ChannelNo) (x : Channel) : (s.setChannel i x).channel i = x := by
  simp [State.setChannel, State.channel]
theorem State.setChannel_channel_other (i j : ChannelNo) (x : Channel) (h : j ≠ i) : (s.setChannel i x).channel j = s.channel j := by
  have h' : i.val ≠ j.val := fun e => h (Fin.ext e.symm)
  simp [State.setChannel, State.channel, h']
theorem State.setChannel_channel (i j : ChannelNo) (x : Channel) : (s.setChannel i x).channel j = if j = i then x else s.channel j := by
  by_cases h : j = i
  · subst h; simp
  · simp [h, State.setChannel_channel_other s i j x h]
@[simp] theorem State.setContext_context_same (i : SlotNo) (x : Context) : (s.setContext i x).context i = x := by
  simp [State.setContext, State.context]
theorem State.setContext_context_other (i j : SlotNo) (x : Context) (h : j ≠ i) : (s.setContext i x).context j = s.context j := by
  have h' : i.val ≠ j.val := fun e => h (Fin.ext e.symm)
  simp [State.setContext, State.context, h']
theorem State.setContext_context (i j : SlotNo) (x : Context) : (s.setContext i x).context j = if j = i then x else s.context j := by
  by_cases h : j = i
  · subst h; simp
  · simp [h, State.setContext_context_other s i j x h]

end Sys2Proof.Machine
end

