-- ==== Sys2Proof/Laws/Channels.lean ====
section
/-! SUPPORT. The Channel Engine's operations change channels, the engine's claims and the two per-channel sets, and
nothing else: one lemma per operation. -/

namespace Sys2Proof.Machine

/-- `t` is `s` but for the Channel Engine and the sets CHANNEL_ENDED and CHANNEL_PROGRESS. -/
def ChannelsOnly (s t : State) : Prop :=
  t = { s with chans := t.chans, port := { s.port with ended := t.port.ended, progress := t.port.progress } }

namespace ChannelsOnly

theorem refl (s : State) : ChannelsOnly s s := rfl

theorem trans {s t u : State} (h : ChannelsOnly s t) (g : ChannelsOnly t u) : ChannelsOnly s u := by
  unfold ChannelsOnly at *; rw [g, h]

theorem setChans (s : State) (x : ChannelEngine) : ChannelsOnly s (s.setChans x) := rfl

theorem setChannel (s : State) (c : ChannelNo) (x : Channel) : ChannelsOnly s (s.setChannel c x) := rfl

theorem marks (s : State) (e p : BitVec 8) : ChannelsOnly s (s.setPort { s.port with ended := e, progress := p }) := rfl

variable {s t : State}

theorem pins (h : ChannelsOnly s t) : t.pins = s.pins := by rw [h]
theorem lau (h : ChannelsOnly s t) : t.lau = s.lau := by rw [h]
theorem rx (h : ChannelsOnly s t) : t.rx = s.rx := by rw [h]
theorem station (h : ChannelsOnly s t) : t.station = s.station := by rw [h]
theorem peers (h : ChannelsOnly s t) : t.peers = s.peers := by rw [h]
theorem peer (h : ChannelsOnly s t) (p : StationNo) : t.peer p = s.peer p := by rw [h]; rfl
theorem windows (h : ChannelsOnly s t) : t.windows = s.windows := by rw [h]
theorem window (h : ChannelsOnly s t) (w : Fin 8) : t.window w = s.window w := by rw [h]; rfl
theorem ctxs (h : ChannelsOnly s t) : t.ctxs = s.ctxs := by rw [h]
theorem context (h : ChannelsOnly s t) (k : SlotNo) : t.context k = s.context k := by rw [h]; rfl
theorem buffer (h : ChannelsOnly s t) : t.buffer = s.buffer := by rw [h]
theorem arrivals (h : ChannelsOnly s t) : t.arrivals = s.arrivals := by rw [h]
theorem freeCount (h : ChannelsOnly s t) : t.freeCount = s.freeCount := by rw [h]
theorem pending (h : ChannelsOnly s t) : t.pending = s.pending := by rw [h]
theorem notices (h : ChannelsOnly s t) : t.port.notices = s.port.notices := by rw [h]

end ChannelsOnly

open ChannelsOnly (refl trans setChans setChannel)

variable (s : State) (c : ChannelNo)

/-! ### The record, ends and starts -/

theorem withdrawChannelClaim_only : ChannelsOnly s (withdrawChannelClaim c s) := rfl
theorem markEnded_only : ChannelsOnly s (markEnded c s) := rfl
theorem markProgress_only : ChannelsOnly s (markProgress c s) := rfl
theorem clearMarks_only : ChannelsOnly s (clearMarks c s) := rfl
theorem endChannel_only (cond : Condition) (detail : Byte) : ChannelsOnly s (endChannel c cond detail s) := rfl
theorem startChannel_only : ChannelsOnly s (startChannel c s) := rfl

theorem chainTrigger_only : ChannelsOnly s (chainTrigger c s) := by
  unfold chainTrigger; repeat' split
  all_goals rfl

theorem endDone_only : ChannelsOnly s (endDone c s) := by
  unfold endDone; split
  · exact endChannel_only s c _ _
  · exact (endChannel_only s c _ _).trans (chainTrigger_only _ _)

theorem enterAborting_only (why : AbortReason) : ChannelsOnly s (enterAborting c why s) := rfl
theorem enterHeld_only (p : HeldPhase) : ChannelsOnly s (enterHeld c p s) := rfl
theorem enterClose_only : ChannelsOnly s (enterClose c s) := rfl
theorem claimFrame_only : ChannelsOnly s (claimFrame c s) := rfl

theorem countProgress_only : ChannelsOnly s (countProgress c s) := by
  unfold countProgress; dsimp only; repeat' split
  all_goals rfl

theorem confirmBytes_only (n : Nat) : ChannelsOnly s (confirmBytes c n s) :=
  (setChannel s c _).trans (countProgress_only _ _)

theorem setAttempts_only (n : Nat) : ChannelsOnly s (setAttempts c n s) := rfl

/-! ### Outcomes -/

theorem endExhausted_only : ChannelsOnly s (endExhausted c s) := by
  unfold endExhausted; dsimp only; repeat' split
  all_goals rfl

theorem channelNoAnswer_only : ChannelsOnly s (channelNoAnswer c s) := by
  unfold channelNoAnswer; dsimp only; split
  · rfl
  · exact (setAttempts_only s c _).trans (endExhausted_only _ _)

theorem requestDeferred_only (r : Byte) : ChannelsOnly s (requestDeferred c r s) := by
  unfold requestDeferred; dsimp only; split <;> rfl

theorem requestAccepted_only : ChannelsOnly s (requestAccepted c s) := by
  unfold requestAccepted; dsimp only; repeat' split
  all_goals rfl

theorem requestTaken_only (a : Answer) : ChannelsOnly s (requestTaken c a s) := by
  unfold requestTaken; repeat' split
  all_goals first
    | rfl
    | exact requestAccepted_only s c
    | exact requestDeferred_only s c _
    | exact channelNoAnswer_only s c

theorem putConfirmed_only : ChannelsOnly s (putConfirmed c s) := by
  have h : ChannelsOnly s (setAttempts c 0 (confirmBytes c (s.channel c).heldFrame.payload.length s)) :=
    (confirmBytes_only s c _).trans (setAttempts_only _ _ _)
  unfold putConfirmed; dsimp only; repeat' split
  · exact h.trans (enterClose_only _ _)
  · exact h.trans (setChannel _ _ _)
  · exact h.trans (claimFrame_only _ _)

theorem putDataTaken_only (a : Answer) : ChannelsOnly s (putDataTaken c a s) := by
  unfold putDataTaken; repeat' split
  all_goals first
    | rfl
    | exact putConfirmed_only s c
    | exact channelNoAnswer_only s c

theorem closeReported_only (p : List Byte) : ChannelsOnly s (closeReported c p s) := by
  unfold closeReported; dsimp only; repeat' split
  all_goals first
    | rfl
    | exact endDone_only s c

theorem closeTaken_only (a : Answer) : ChannelsOnly s (closeTaken c a s) := by
  unfold closeTaken; repeat' split
  all_goals first
    | rfl
    | exact (setAttempts_only s c 0).trans (closeReported_only _ c _)
    | exact channelNoAnswer_only s c

theorem abortTaken_only (a : Answer) : ChannelsOnly s (abortTaken c a s) := by
  unfold abortTaken; split
  all_goals first
    | rfl
    | exact channelNoAnswer_only s c

theorem channelTaken_only (a : Answer) : ChannelsOnly s (channelTaken c a s) := by
  unfold channelTaken; repeat' split
  all_goals first
    | rfl
    | exact requestTaken_only s c a
    | exact putDataTaken_only s c a
    | exact closeTaken_only s c a
    | exact abortTaken_only s c a

theorem applyPending_only : ChannelsOnly s (applyPending c s) := by
  unfold applyPending; dsimp only; repeat' split
  all_goals rfl

/-- The outcome of a channel's ask changes the Channel Engine and its two sets only. -/
theorem channelOutcome_only (o : AskOutcome) : ChannelsOnly s (channelOutcome c o s) := by
  unfold channelOutcome; dsimp only
  refine ChannelsOnly.trans ?_ (applyPending_only _ c)
  split
  · exact (setChannel s c _).trans (channelTaken_only _ c _)
  · exact (setChannel s c _).trans (channelNoAnswer_only _ c)
  · rfl

/-! ### Other events -/

theorem pendEnd_only (why : Condition) : ChannelsOnly s (pendEnd c why s) := rfl

theorem giveUp_only (why : AbortReason) : ChannelsOnly s (giveUp c why s) := by
  unfold giveUp; dsimp only; repeat' split
  all_goals rfl

theorem interruptChannel_only (why : Condition) : ChannelsOnly s (interruptChannel why s c) := by
  unfold interruptChannel; dsimp only; repeat' split
  all_goals rfl

/-- A fold over channels whose step changes the Channel Engine only does so too. -/
theorem foldl_only (l : List ChannelNo) (f : State → ChannelNo → State) (h : ∀ t d, ChannelsOnly t (f t d)) (s : State) :
    ChannelsOnly s (l.foldl f s) := by
  induction l generalizing s with
  | nil => rfl
  | cons d l ih => exact (h s d).trans (ih _)

theorem channelsPeerEvent_only (p : StationNo) (why : Condition) : ChannelsOnly s (channelsPeerEvent p why s) :=
  foldl_only _ _ (fun t d => by split; exacts [interruptChannel_only t d why, rfl]) s

theorem channelsWithdraw_only : ChannelsOnly s (channelsWithdraw s) :=
  foldl_only _ _ (fun t d => by split; exacts [endChannel_only t d _ _, interruptChannel_only t d _]) s

theorem channelsClash_only : ChannelsOnly s (channelsClash s) :=
  foldl_only _ _ (fun t d => by split <;> first | rfl | exact endChannel_only t d _ _) s

end Sys2Proof.Machine
end

