-- ==== Sys2Proof/Laws/Contexts.lean ====
section
/-! SUPPORT. The Responder Engine's operations change contexts, the engine's claims and linger order, a window's valid
length, the Arrival Queue and the notices, and nothing else; a payload write also serves the claims before it. -/

namespace Sys2Proof.Machine

/-- `t` is `s` but for the Responder Engine, the Window Table, the Arrival Queue and the notices. -/
def ContextsOnly (s t : State) : Prop :=
  t = { s with windows := t.windows, ctxs := t.ctxs, arrivals := t.arrivals,
               port := { s.port with notices := t.port.notices } }

namespace ContextsOnly

theorem refl (s : State) : ContextsOnly s s := rfl

theorem trans {s t u : State} (h : ContextsOnly s t) (g : ContextsOnly t u) : ContextsOnly s u := by
  unfold ContextsOnly at *; rw [g, h]

variable {s t : State}

theorem pins (h : ContextsOnly s t) : t.pins = s.pins := by rw [h]
theorem lau (h : ContextsOnly s t) : t.lau = s.lau := by rw [h]
theorem rx (h : ContextsOnly s t) : t.rx = s.rx := by rw [h]
theorem station (h : ContextsOnly s t) : t.station = s.station := by rw [h]
theorem peers (h : ContextsOnly s t) : t.peers = s.peers := by rw [h]
theorem peer (h : ContextsOnly s t) (p : StationNo) : t.peer p = s.peer p := by rw [h]; rfl
theorem chans (h : ContextsOnly s t) : t.chans = s.chans := by rw [h]
theorem channel (h : ContextsOnly s t) (c : ChannelNo) : t.channel c = s.channel c := by rw [h]; rfl
theorem buffer (h : ContextsOnly s t) : t.buffer = s.buffer := by rw [h]
theorem freeCount (h : ContextsOnly s t) : t.freeCount = s.freeCount := by rw [h]
theorem pending (h : ContextsOnly s t) : t.pending = s.pending := by rw [h]
theorem ended (h : ContextsOnly s t) : t.port.ended = s.port.ended := by rw [h]
theorem progress (h : ContextsOnly s t) : t.port.progress = s.port.progress := by rw [h]

end ContextsOnly

/-- `t` is `s` but for what both engines own, buffer memory with its arbiter, the host port's byte claims and the
notices. -/
def EnginesOnly (s t : State) : Prop :=
  t = { s with windows := t.windows, chans := t.chans, ctxs := t.ctxs, buffer := t.buffer, arrivals := t.arrivals,
               port := { s.port with notices := t.port.notices, ended := t.port.ended, progress := t.port.progress,
                                     so := t.port.so, claims := t.port.claims } }

namespace EnginesOnly

theorem refl (s : State) : EnginesOnly s s := rfl

theorem trans {s t u : State} (h : EnginesOnly s t) (g : EnginesOnly t u) : EnginesOnly s u := by
  unfold EnginesOnly at *; rw [g, h]

variable {s t : State}

theorem ofChannels (h : ChannelsOnly s t) : EnginesOnly s t := by unfold EnginesOnly; rw [h]
theorem ofContexts (h : ContextsOnly s t) : EnginesOnly s t := by unfold EnginesOnly; rw [h]

theorem pins (h : EnginesOnly s t) : t.pins = s.pins := by rw [h]
theorem lau (h : EnginesOnly s t) : t.lau = s.lau := by rw [h]
theorem rx (h : EnginesOnly s t) : t.rx = s.rx := by rw [h]
theorem station (h : EnginesOnly s t) : t.station = s.station := by rw [h]
theorem peers (h : EnginesOnly s t) : t.peers = s.peers := by rw [h]
theorem peer (h : EnginesOnly s t) (p : StationNo) : t.peer p = s.peer p := by rw [h]; rfl
theorem freeCount (h : EnginesOnly s t) : t.freeCount = s.freeCount := by rw [h]
theorem pending (h : EnginesOnly s t) : t.pending = s.pending := by rw [h]
theorem command (h : EnginesOnly s t) : t.port.command = s.port.command := by rw [h]
theorem mask (h : EnginesOnly s t) : t.port.mask = s.port.mask := by rw [h]

end EnginesOnly

variable (s : State) (k : SlotNo)

/-! ### Ends and frees -/

theorem withdrawContextClaim_only : ContextsOnly s (withdrawContextClaim k s) := rfl
theorem leaveLinger_only : ContextsOnly s (leaveLinger k s) := rfl
theorem joinLinger_only : ContextsOnly s (joinLinger k s) := rfl
theorem setContext_only (x : Context) : ContextsOnly s (s.setContext k x) := rfl
theorem freeContext_only : ContextsOnly s (freeContext k s) := rfl

theorem raiseValid_only (x : Context) (r : Result) : ContextsOnly s (raiseValid x r s) := by
  unfold raiseValid; split <;> rfl

theorem appendArrival_only (r : Arrival) : ContextsOnly s (appendArrival r s) := by
  unfold appendArrival; split <;> rfl

/-- The end of a context changes the Responder Engine, the window's valid length, the queue and the notices only. -/
theorem endContext_only (r : Result) : ContextsOnly s (endContext k r s) := by
  have h : ∀ a b, ContextsOnly s (withdrawContextClaim k (appendArrival a (raiseValid b r s))) := fun a b =>
    ((raiseValid_only s b r).trans (appendArrival_only _ a)).trans (withdrawContextClaim_only _ k)
  unfold endContext; dsimp only; split
  · exact ((h _ _).trans (setContext_only _ k _)).trans (joinLinger_only _ k)
  · exact (h _ _).trans (setContext_only _ k _)

/-! ### Building, taking a REQUEST -/

theorem buildData_only : ContextsOnly s (buildData k s) := by
  unfold buildData; dsimp only; repeat' split
  all_goals rfl

theorem supersede_only (p : StationNo) (xch : ChannelNo) : ContextsOnly s (supersede p xch s) := by
  unfold supersede; repeat' split
  · rfl
  · rfl
  · exact endContext_only s _ _

theorem acceptRequest_only (p : StationNo) (xch : ChannelNo) (q : RequestBody) :
    ContextsOnly s (acceptRequest k p xch q s) := by
  have h : ContextsOnly s (if (s.context k).state = .lingering then freeContext k s else s) := by split <;> rfl
  unfold acceptRequest; dsimp only
  generalize (if (s.context k).state = .lingering then freeContext k s else s) = t at h ⊢
  split
  · exact (h.trans (setContext_only _ k _)).trans (buildData_only _ k)
  · exact h.trans (setContext_only _ k _)

/-- Taking a REQUEST changes the Responder Engine, the queue and the notices only. -/
theorem takeRequest_only (p : StationNo) (xch : ChannelNo) (q : RequestBody) :
    ContextsOnly s (takeRequest p xch q s).2 := by
  unfold takeRequest; dsimp only; repeat' split
  · exact supersede_only s p xch
  · exact (supersede_only s p xch).trans (acceptRequest_only _ _ p xch q)
  · exact supersede_only s p xch

/-! ### Frames of an exchange -/

theorem endAndReport_only (r : Result) : ContextsOnly s (endAndReport k r s).2 := endContext_only s k r

theorem closeToContext_only : ContextsOnly s (closeToContext k s).2 := by
  unfold closeToContext; split
  · rfl
  all_goals exact endAndReport_only s k _

theorem abortToContext_only : ContextsOnly s (abortToContext k s).2 := by
  unfold abortToContext; split
  · rfl
  · exact endAndReport_only s k _

/-! ### Outcomes -/

theorem contextNoAnswer_only : ContextsOnly s (contextNoAnswer k s) := by
  unfold contextNoAnswer; dsimp only; split
  · rfl
  · exact (setContext_only s k _).trans (endContext_only _ k _)

theorem contextConfirmed_only : ContextsOnly s (contextConfirmed k s) := by
  unfold contextConfirmed; dsimp only; split
  · rfl
  · exact (setContext_only s k _).trans (buildData_only _ k)

theorem contextTaken_only (a : Answer) : ContextsOnly s (contextTaken k a s) := by
  unfold contextTaken; repeat' split
  all_goals first
    | rfl
    | exact contextConfirmed_only s k
    | exact contextNoAnswer_only s k
    | exact (setContext_only s k _).trans (endContext_only _ k _)

/-- The outcome of a context's ask changes what the Responder Engine owns only. -/
theorem contextOutcome_only (o : AskOutcome) : ContextsOnly s (contextOutcome k o s) := by
  unfold contextOutcome; dsimp only; repeat' split
  · exact (setContext_only s k _).trans (contextTaken_only _ k _)
  · exact (setContext_only s k _).trans (contextNoAnswer_only _ k)
  · rfl
  · rfl

/-! ### Other events -/

theorem endWhere_only (cond : Context → Bool) (r : Result) (freeing : Bool) :
    ContextsOnly s (endWhere cond r freeing s k) := by
  unfold endWhere; repeat' split
  all_goals first
    | rfl
    | exact endContext_only s k r

theorem endWhere_foldl_only (l : List SlotNo) (cond : Context → Bool) (r : Result) (freeing : Bool) :
    ContextsOnly s (l.foldl (endWhere cond r freeing) s) := by
  induction l generalizing s with
  | nil => rfl
  | cons k l ih => exact (endWhere_only s k cond r freeing).trans (ih _)

theorem contextsWindowClosed_only (w : Fin 8) : ContextsOnly s (contextsWindowClosed w s) := endWhere_foldl_only s _ _ _ _
theorem contextsPeerEvent_only (p : StationNo) : ContextsOnly s (contextsPeerEvent p s) := endWhere_foldl_only s _ _ _ _
theorem contextsWithdraw_only : ContextsOnly s (contextsWithdraw s) := endWhere_foldl_only s _ _ _ _
theorem contextsClash_only : ContextsOnly s (contextsClash s) := endWhere_foldl_only s _ _ _ _

/-! ### Claims served and payloads written -/

theorem serve_only (who : Claimant) : EnginesOnly s (serve who s) := by
  cases who <;> simp only [serve, serveHost, serveChannel, serveContext] <;> repeat' split
  all_goals rfl

theorem serveEach_only (l : List Claimant) : EnginesOnly s (serveEach l s) := by
  induction l generalizing s with
  | nil => rfl
  | cons c l ih =>
    unfold serveEach
    refine EnginesOnly.trans ?_ (ih _)
    split
    · exact serve_only s c
    · rfl

/-- A payload write changes buffer memory and what the claims served before it change, and nothing else. -/
theorem writePayload_only (who : Claimant) (address : Nat) (bytes : List Byte) :
    EnginesOnly s (writePayload who address bytes s) := by
  unfold writePayload; dsimp only; split
  · rfl
  · exact (serveEach_only s _).trans rfl

theorem takeChannelData_only (src : StationNo) (c : ChannelNo) (tgl : Bool) (payload : List Byte) :
    EnginesOnly s (takeChannelData src c tgl payload s).2 := by
  have hnew : EnginesOnly s (takeNewData c tgl payload s).2 := by
    unfold takeNewData; dsimp only; repeat' split
    · rfl
    · exact (writePayload_only s _ _ _).trans
        (EnginesOnly.ofChannels ((confirmBytes_only _ c _).trans (enterClose_only _ c)))
    · exact (writePayload_only s _ _ _).trans
        (EnginesOnly.ofChannels ((confirmBytes_only _ c _).trans (ChannelsOnly.setChannel _ c _)))
  unfold takeChannelData; dsimp only; repeat' split
  all_goals first
    | rfl
    | exact hnew

theorem dataToContext_only (tgl : Bool) (payload : List Byte) : EnginesOnly s (dataToContext k tgl payload s).2 := by
  unfold dataToContext; dsimp only; repeat' split
  all_goals first
    | rfl
    | exact EnginesOnly.ofContexts (endAndReport_only s k _)
    | exact (writePayload_only s _ _ _).trans (EnginesOnly.ofContexts (setContext_only _ k _))

theorem byIdentity_only (p : StationNo) (xch : ChannelNo) (act : SlotNo → State → Answer × State)
    (h : ∀ j, EnginesOnly s (act j s).2) : EnginesOnly s (byIdentity p xch act s).2 := by
  unfold byIdentity; repeat' split
  · rfl
  · rfl
  · exact h _

end Sys2Proof.Machine
end

