-- ==== Sys2Proof/Laws/Ends.lean ====
section
/-! SUPPORT. What the shared operations on one channel and on one context do, each said once in the words of Safety: a
channel's end, entry to ABORTING and to HELD, its claim; a context's end and its freeing. -/

namespace Sys2Proof.Machine

variable (s : State)

/-! ### One channel -/

/-- An end of a channel is all that R118 names and nothing else. -/
theorem endChannel_ends (c : ChannelNo) (cond : Condition) (detail : Byte) :
    ChannelEnds c cond detail s (endChannel c cond detail s) :=
  { record := by simp [endChannel, withdrawChannelClaim, markEnded, State.channel, State.setChannel, Channel.ended]
    others := fun d hd => by
      have h : c.val ≠ d.val := fun h => hd (Fin.ext h.symm)
      simp [endChannel, withdrawChannelClaim, markEnded, State.channel, State.setChannel, h]
    claims := rfl
    marked := rfl
    rest := rfl }

/-- Entry to ABORTING is all that R132 names and nothing else. -/
theorem enterAborting_aborts (c : ChannelNo) (why : AbortReason) : ChannelAborts c why s (enterAborting c why s) :=
  { record := by simp [enterAborting, withdrawChannelClaim, State.channel, State.setChannel, Channel.aborting]
    others := fun d hd => by
      have h : c.val ≠ d.val := fun h => hd (Fin.ext h.symm)
      simp [enterAborting, withdrawChannelClaim, State.channel, State.setChannel, h]
    claims := rfl
    rest := rfl }

/-- Entry to HELD is all that R124 and R126 name and nothing else. -/
theorem enterHeld_held (c : ChannelNo) (p : HeldPhase) : ChannelHeld c p s (enterHeld c p s) :=
  { record := by simp [enterHeld, withdrawChannelClaim, State.channel, State.setChannel, Channel.held]
    others := fun d hd => by
      have h : c.val ≠ d.val := fun h => hd (Fin.ext h.symm)
      simp [enterHeld, withdrawChannelClaim, State.channel, State.setChannel, h]
    claims := rfl
    rest := rfl }

/-- A claim for the next DATA is what R108 names and nothing else. -/
theorem claimFrame_claims (c : ChannelNo) : ChannelClaims c s (claimFrame c s) :=
  { record := by simp [claimFrame, State.channel, State.setChannel]
    others := fun d hd => by
      have h : c.val ≠ d.val := fun h => hd (Fin.ext h.symm)
      simp [claimFrame, State.channel, State.setChannel, h]
    claims := rfl
    rest := rfl }

/-! ### The arrival queue -/

/-- One append, in the words of the queue's law (R178). -/
theorem taking_one (q : ArrivalQueue) (r : Arrival) :
    q.taking [r] = if q.records.length < 16 then { q with records := q.records ++ [r] } else { q with overflow := true } := by
  unfold ArrivalQueue.taking
  split
  · rename_i h
    have h1 : max 16 q.records.length = 16 := by omega
    have h2 : ¬(16 < q.records.length + 1) := by omega
    rw [List.take_of_length_le (by simp; omega)]
    simp [h2]
  · rename_i h
    have h1 : max 16 q.records.length = q.records.length := by omega
    have h2 : 16 < q.records.length + 1 := by omega
    rw [h1, List.take_left' rfl]
    simp [h2]

/-- The notices of one append (R181). -/
theorem notices_taking_one (n : Notices) (q : ArrivalQueue) (r : Arrival) :
    n.taking q [r] = if q.records.length < 16 then { n with arrival := true } else { n with arrivalOverflow := true } := by
  unfold Notices.taking
  split
  · rename_i h
    have h2 : ¬(16 < q.records.length + 1) := by omega
    simp [h2, h]
  · rename_i h
    have h2 : 16 < q.records.length + 1 := by omega
    simp [h2, h]

/-- An append is the queue's and the notices' (R178, R181). -/
theorem appendArrival_eq (r : Arrival) :
    appendArrival r s = (s.setArrivals (s.arrivals.taking [r])).setPort
      { s.port with notices := s.port.notices.taking s.arrivals [r] } := by
  rw [taking_one, notices_taking_one]; unfold appendArrival; split <;> rfl

/-! ### One context -/

/-- An end of a context is all that R162 names and nothing else. -/
theorem endContext_ends (k : SlotNo) (r : Result) : ContextEnds k r s (endContext k r s) := by
  have hw : ∀ w, (raiseValid (s.context k) r s).window w =
      if (s.context k).op = .put ∧ r = .ok ∧ w = (s.context k).windowId then
        { s.window w with valid := max (s.window w).valid ((s.context k).offset + (s.context k).moved) }
      else s.window w := by
    intro w
    unfold raiseValid
    split
    · rename_i h
      by_cases hq : w = (s.context k).windowId
      · subst hq; simp [h, State.window, State.setWindow]
      · have hv : (s.context k).windowId.val ≠ w.val := fun e => hq (Fin.ext e.symm)
        simp [hq, State.window, State.setWindow, hv]
    · rename_i h
      rw [if_neg (fun hc => h ⟨hc.1, hc.2.1⟩)]
  obtain ⟨ws, hr⟩ : ∃ ws, raiseValid (s.context k) r s = s.setWindows ws := by
    unfold raiseValid; split
    · exact ⟨_, rfl⟩
    · exact ⟨s.windows, rfl⟩
  rw [hr] at hw
  have hl : r.lingers = decide (r.code ≤ 7) := rfl
  have hs : ∀ j, j ≠ k → k.val ≠ j.val := fun j hj h => hj (Fin.ext h.symm)
  simp only [endContext, appendArrival_eq, hr, hl]
  by_cases h7 : r.code ≤ 7
  · simp only [h7, decide_true, if_true]
    exact
      { window := hw
        record := by
          simp [joinLinger, withdrawContextClaim, State.context, State.setContext, Context.after, h7, Context.endedWith,
            reportValid, State.idleLength, State.window]
          rfl
        others := fun j hj => by
          simp [joinLinger, withdrawContextClaim, State.context, State.setContext, hs j hj]
        linger := by rw [if_pos h7]; rfl
        claims := rfl
        arrivals := rfl
        notices := rfl
        rest := rfl }
  · simp only [h7, decide_false, Bool.false_eq_true, if_false]
    exact
      { window := hw
        record := by
          simp [withdrawContextClaim, State.context, State.setContext, Context.after, h7, Context.endedWith, reportValid,
            State.window]
          rfl
        others := fun j hj => by simp [withdrawContextClaim, State.context, State.setContext, hs j hj]
        linger := by rw [if_neg h7]; rfl
        claims := rfl
        arrivals := rfl
        notices := rfl
        rest := rfl }

/-- A context is freed as R142 and R143 say, and nothing else changes. -/
theorem freeContext_freed (k : SlotNo) : ContextFreed k s (freeContext k s) :=
  { record := by simp [freeContext, leaveLinger, withdrawContextClaim, State.context, State.setContext, Context.freed]
    others := fun j hj => by
      have h : k.val ≠ j.val := fun h => hj (Fin.ext h.symm)
      simp [freeContext, leaveLinger, withdrawContextClaim, State.context, State.setContext, h]
    linger := rfl
    claims := rfl
    rest := rfl }

end Sys2Proof.Machine
end

