-- ==== Sys2Proof/Laws/Events.lean ====
section
/-! SUPPORT. What the events that reach every channel and every context do (R121 to R123, R165 to R167): a peer event,
entry to WITHDRAWING, entry to CLASH, CLOSE_WINDOW. -/

namespace Sys2Proof.Machine

/-! ### Channels -/

/-- What an event does to one channel. -/
structure ChannelTakes (c : ChannelNo) (g : Channel → Channel) (s t : State) : Prop where
  record : t.channel c = g (s.channel c)
  others : ∀ d, d ≠ c → t.channel d = s.channel d
  marks : ∀ d : ChannelNo, t.port.ended.getLsbD d.val =
    (s.port.ended.getLsbD d.val || (decide (d = c) && (g (s.channel c)).state.ended && !(s.channel c).state.ended))
  claims : t.chans.claims = s.chans.claims.filter fun cl =>
    !(decide (cl.ch = c) && (g (s.channel c)).state.ended && !(s.channel c).state.ended)
  progress : t.port.progress = s.port.progress

/-- A channel that the event leaves as it is. -/
theorem ChannelTakes.same (c : ChannelNo) (g : Channel → Channel) (s : State) (h : g (s.channel c) = s.channel c) :
    ChannelTakes c g s s :=
  { record := h.symm
    others := fun _ _ => rfl
    marks := fun d => by rw [h]; cases (s.channel c).state.ended <;> simp
    claims := by rw [h]; cases (s.channel c).state.ended <;> simp
    progress := rfl }

/-- A channel that the event ends. -/
theorem ChannelTakes.ends (c : ChannelNo) (g : Channel → Channel) (s : State) (cond : Condition) (detail : Byte)
    (h : g (s.channel c) = (s.channel c).ended cond detail) (hb : (s.channel c).state.ended = false) :
    ChannelTakes c g s (endChannel c cond detail s) := by
  have e := endChannel_ends s c cond detail
  have he : (g (s.channel c)).state.ended = true := by
    rw [h]; simp only [Channel.ended]; split <;> rfl
  exact
    { record := by rw [h]; exact e.record
      others := e.others
      marks := fun d => by
        rw [e.marked, he, hb]
        simp only [BitVec.getLsbD_or, BitVec.getLsbD_twoPow, Bool.and_true, Bool.not_false]
        congr 1
        have : d.val < 8 := d.isLt
        by_cases hd : d = c
        · subst hd; simp
        · have : c.val ≠ d.val := fun h => hd (Fin.ext h.symm)
          simp [hd, this]
      claims := by
        rw [e.claims, he, hb]; congr 1; funext cl; by_cases hc : cl.ch = c <;> simp [hc]
      progress := rfl }

/-- A channel whose record the event rewrites without ending it. -/
theorem ChannelTakes.rewrites (c : ChannelNo) (g : Channel → Channel) (s : State)
    (h : (g (s.channel c)).state = (s.channel c).state) :
    ChannelTakes c g s (s.setChannel c (g (s.channel c))) :=
  { record := by simp
    others := fun d hd => State.setChannel_channel_other s c d _ hd
    marks := fun d => by rw [h]; cases (s.channel c).state.ended <;> simp
    claims := by rw [h]; cases (s.channel c).state.ended <;> simp
    progress := rfl }

/-- A fold of one-channel steps over a list of channels, each once. -/
theorem channels_fold (f : State → ChannelNo → State) (g : Channel → Channel)
    (hf : ∀ s c, ChannelTakes c g s (f s c)) (l : List ChannelNo) (hl : l.Nodup) (s : State) :
    (∀ c, (l.foldl f s).channel c = if c ∈ l then g (s.channel c) else s.channel c) ∧
    (∀ c : ChannelNo, (l.foldl f s).port.ended.getLsbD c.val = (s.port.ended.getLsbD c.val ||
      (decide (c ∈ l) && (g (s.channel c)).state.ended && !(s.channel c).state.ended))) ∧
    ((l.foldl f s).chans.claims = s.chans.claims.filter fun cl =>
      !(decide (cl.ch ∈ l) && (g (s.channel cl.ch)).state.ended && !(s.channel cl.ch).state.ended)) ∧
    (l.foldl f s).port.progress = s.port.progress := by
  induction l generalizing s with
  | nil => simp
  | cons a l ih =>
    have hn := List.nodup_cons.mp hl
    have h := hf s a
    obtain ⟨i1, i2, i3, i4⟩ := ih hn.2 (f s a)
    refine ⟨fun c => ?_, fun c => ?_, ?_, i4.trans h.progress⟩
    · rw [List.foldl_cons, i1 c]
      by_cases hc : c = a
      · subst hc; simp [hn.1, h.record]
      · simp [hc, h.others c hc]
    · rw [List.foldl_cons, i2 c, h.marks c]
      by_cases hc : c = a
      · subst hc; simp [hn.1]
      · simp [hc, h.others c hc]
    · rw [List.foldl_cons, i3, h.claims, List.filter_filter]
      congr 1; funext cl
      by_cases hc : cl.ch = a
      · subst hc; simp [hn.1]
      · simp [hc, h.others _ hc]

/-- A fold over all channels. -/
theorem channels_take (f : State → ChannelNo → State) (g : Channel → Channel)
    (hf : ∀ s c, ChannelTakes c g s (f s c)) (s : State) : ChannelsTake g s (allChannels.foldl f s) := by
  obtain ⟨h1, h2, h3, h4⟩ := channels_fold f g hf allChannels (by decide) s
  have ha : ∀ c : ChannelNo, c ∈ allChannels := by decide
  exact
    { records := fun c => by rw [h1 c, if_pos (ha c)]
      marks := fun c => by rw [h2 c]; simp [ha c]
      claims := by rw [h3]; simp [ha]
      progress := h4 }

/-- One channel under an event that ends running channels. -/
theorem interruptChannel_takes (why : Condition) (s : State) (c : ChannelNo) :
    ChannelTakes c (Channel.interrupted why) s (interruptChannel why s c) := by
  have same : (s.channel c).interrupted why = s.channel c → ChannelTakes c (Channel.interrupted why) s s :=
    ChannelTakes.same c _ s
  have ends : ∀ cond, (s.channel c).interrupted why = (s.channel c).ended cond 0 → (s.channel c).state.ended = false →
      ChannelTakes c (Channel.interrupted why) s (endChannel c cond 0 s) := fun cond => ChannelTakes.ends c _ s cond 0
  have pends : ∀ r, (s.channel c).interrupted why =
        { s.channel c with endPending := some ((s.channel c).endPending.getD r) } →
      ChannelTakes c (Channel.interrupted why) s (pendEnd c r s) := fun r h => by
    have := ChannelTakes.rewrites c (Channel.interrupted why) s (by rw [h])
    rwa [h] at this
  unfold interruptChannel
  dsimp only
  cases hs : (s.channel c).state <;> dsimp only
  case idle => exact same (by simp [Channel.interrupted, hs, ChannelState.phase])
  case armed => exact same (by simp [Channel.interrupted, hs, ChannelState.phase])
  case done => exact same (by simp [Channel.interrupted, hs, ChannelState.phase])
  case failed => exact same (by simp [Channel.interrupted, hs, ChannelState.phase])
  case held => exact ends _ (by simp [Channel.interrupted, hs]) (by rw [hs]; rfl)
  all_goals
    cases ha : (s.channel c).askInFlight
    · exact ends _ (by simp [Channel.interrupted, hs, ha, ChannelState.phase]) (by rw [hs]; rfl)
    · exact pends _ (by simp [Channel.interrupted, hs, ha, ChannelState.phase])

/-- A peer event at the Channel Engine (R121). -/
theorem channelsPeerEvent_takes (s : State) (p : StationNo) (why : Condition) :
    ChannelsTake (fun ch => if ch.desc.peer = p then ch.interrupted why else ch) s (channelsPeerEvent p why s) :=
  channels_take _ _ (fun s c => by
    by_cases h : (s.channel c).desc.peer = p
    · simp only [h, if_true]
      have i := interruptChannel_takes why s c
      exact
        { record := by simp only [h, if_true]; exact i.record
          others := i.others
          marks := fun d => by simp only [h, if_true]; exact i.marks d
          claims := by simp only [h, if_true]; exact i.claims
          progress := i.progress }
    · simp only [h, if_false]
      exact ChannelTakes.same c _ s (by simp [h])) s

/-- Entry to WITHDRAWING at the Channel Engine (R122). -/
theorem channelsWithdraw_takes (s : State) : ChannelsTake Channel.withdrawn s (channelsWithdraw s) :=
  channels_take _ _ (fun s c => by
    by_cases h : (s.channel c).state = .armed
    · simp only [h, if_true]
      exact ChannelTakes.ends c Channel.withdrawn s .withdrawn 0 (by simp [Channel.withdrawn, h]) (by rw [h]; rfl)
    · simp only [h, if_false]
      have i := interruptChannel_takes .withdrawn s c
      have e : (s.channel c).withdrawn = (s.channel c).interrupted .withdrawn := by simp [Channel.withdrawn, h]
      exact
        { record := by rw [e]; exact i.record
          others := i.others
          marks := fun d => by rw [e]; exact i.marks d
          claims := by rw [e]; exact i.claims
          progress := i.progress }) s

/-- Entry to CLASH at the Channel Engine (R123). -/
theorem channelsClash_takes (s : State) : ChannelsTake Channel.clashed s (channelsClash s) :=
  channels_take _ _ (fun s c => by
    have same : (s.channel c).clashed = s.channel c → ChannelTakes c Channel.clashed s s := ChannelTakes.same c _ s
    have ends : (s.channel c).clashed = (s.channel c).ended .clash 0 → (s.channel c).state.ended = false →
        ChannelTakes c Channel.clashed s (endChannel c .clash 0 s) := ChannelTakes.ends c _ s .clash 0
    cases h : (s.channel c).state <;> dsimp only
    case idle => exact same (by simp [Channel.clashed, h])
    case done => exact same (by simp [Channel.clashed, h])
    case failed => exact same (by simp [Channel.clashed, h])
    all_goals exact ends (by simp [Channel.clashed, h]) (by rw [h]; rfl)) s

/-! ### Contexts -/

/-- One append after others (R178). -/
theorem taking_snoc (q : ArrivalQueue) (xs : List Arrival) (r : Arrival) :
    (q.taking xs).taking [r] = q.taking (xs ++ [r]) := by
  rw [taking_one]
  have hlen : (q.taking xs).records.length = min (max 16 q.records.length) (q.records.length + xs.length) := by
    simp [ArrivalQueue.taking]
  rw [hlen]
  split
  · rename_i h
    have h1 : q.records.length + xs.length < 16 := by omega
    have m : max 16 q.records.length = 16 := by omega
    unfold ArrivalQueue.taking
    rw [m, List.take_of_length_le (by simp; omega), List.take_of_length_le (by simp; omega)]
    have d1 : ¬16 < q.records.length + xs.length := by omega
    have d2 : ¬16 < q.records.length + (xs.length + 1) := by omega
    simp [d1, d2]
  · rename_i h
    have d2 : 16 < q.records.length + (xs.length + 1) := by omega
    unfold ArrivalQueue.taking
    have e : (q.records ++ (xs ++ [r])).take (max 16 q.records.length) =
        (q.records ++ xs).take (max 16 q.records.length) := by
      rw [← List.append_assoc, List.take_append_of_le_length (by simp; omega)]
    rw [e]; simp [d2]

/-- The notices of one append after others (R181). -/
theorem notices_taking_snoc (n : Notices) (q : ArrivalQueue) (xs : List Arrival) (r : Arrival) :
    (n.taking q xs).taking (q.taking xs) [r] = n.taking q (xs ++ [r]) := by
  rw [notices_taking_one]
  have hlen : (q.taking xs).records.length = min (max 16 q.records.length) (q.records.length + xs.length) := by
    simp [ArrivalQueue.taking]
  rw [hlen]
  split
  · rename_i h
    have d0 : q.records.length < 16 := by omega
    have d1 : ¬16 < q.records.length + xs.length := by omega
    have d2 : ¬16 < q.records.length + (xs.length + 1) := by omega
    simp [Notices.taking, d0, d1, d2]
  · rename_i h
    have d2 : 16 < q.records.length + (xs.length + 1) := by omega
    by_cases d0 : q.records.length < 16
    · have hx : xs ≠ [] := by rintro rfl; simp at d2; omega
      simp [Notices.taking, d0, d2, hx]
    · simp [Notices.taking, d0, d2]

/-- What the first slots of an event have done, in ascending order: those of `l`. -/
structure ContextsTakeOn (l : List SlotNo) (p : Context → Bool) (r : Result) (frees : Bool) (s t : State) : Prop where
  records : ∀ k, t.context k =
    if decide (k ∈ l) && p (s.context k) && (s.context k).state.active then
      (s.context k).after r (s.window (s.context k).windowId).valid (100 * s.station.conf.idleLimit)
    else if decide (k ∈ l) && p (s.context k) && (s.context k).state == .lingering && frees then
      { s.context k with
        state := .free, pauseTimer := none, idleTimer := none, askInFlight := false, finalMark := false, built := false }
    else s.context k
  linger : t.ctxs.linger =
    (s.ctxs.linger ++ if r.code ≤ 7 then l.filter fun k => p (s.context k) && (s.context k).state.active else []).filter
      fun k => !(decide (k ∈ l) && p (s.context k) && (s.context k).state == .lingering && frees)
  claims : t.ctxs.claims = s.ctxs.claims.filter fun cl =>
    !(decide (cl.slot ∈ l) && p (s.context cl.slot) &&
      ((s.context cl.slot).state.active || ((s.context cl.slot).state == .lingering && frees)))
  arrivals : t.arrivals = s.arrivals.taking
    ((l.filter fun k => p (s.context k) && (s.context k).state.active).map fun k => (s.context k).record r)
  notices : t.port.notices = s.port.notices.taking s.arrivals
    ((l.filter fun k => p (s.context k) && (s.context k).state.active).map fun k => (s.context k).record r)
  windows : t.windows = s.windows
  station : t.station = s.station

/-- No slot yet. -/
theorem ContextsTakeOn.nil (p : Context → Bool) (r : Result) (frees : Bool) (s : State) :
    ContextsTakeOn [] p r frees s s :=
  { records := fun k => by simp
    linger := by simp
    claims := by simp
    arrivals := by
      simp [ArrivalQueue.taking, List.take_of_length_le (Nat.le_max_right 16 s.arrivals.records.length)]
    notices := by simp [Notices.taking]
    windows := rfl
    station := rfl }

/-- One slot more. -/
theorem ContextsTakeOn.snoc {l : List SlotNo} {p : Context → Bool} {r : Result} {frees : Bool} {s t : State} (k : SlotNo)
    (hk : k ∉ l) (hr : r ≠ .ok) (h : ContextsTakeOn l p r frees s t) :
    ContextsTakeOn (l ++ [k]) p r frees s (endWhere p r frees t k) := by
  have hx : t.context k = s.context k := by rw [h.records k]; simp [hk]
  unfold endWhere
  rw [hx]
  by_cases hp : p (s.context k) = true
  · rw [if_pos hp]
    by_cases ha : (s.context k).state.active = true
    · rw [if_pos ha]
      have e := endContext_ends t k r
      have hw : (endContext k r t).windows = t.windows := by
        ext i hi : 1
        have := e.window ⟨i, hi⟩
        rw [if_neg (fun hc => hr hc.2.1)] at this
        exact this
      have hl : (s.context k).state ≠ .lingering := by intro hc; rw [hc] at ha; cases ha
      exact
        { records := fun j => by
            by_cases hj : j = k
            · subst hj
              rw [e.record, hx, show (endContext j r t).window (s.context j).windowId = t.window (s.context j).windowId by
                simp only [State.window, hw], h.station]
              simp [hp, ha, State.window, h.windows]
            · rw [e.others j hj, h.records j]; simp [hj]
          linger := by
            rw [e.linger, h.linger]
            by_cases h7 : r.code ≤ 7
            · simp only [h7, if_true, List.filter_append, List.append_assoc]
              congr 1
              · apply List.filter_congr; intro j _
                by_cases hj : j = k
                · subst hj
                  have : ((s.context j).state == .lingering) = false := by simp [hl]
                  simp [this]
                · simp [hj]
              · congr 1
                · apply List.filter_congr; intro j hj
                  have : j ≠ k := fun hc => hk (hc ▸ (List.mem_filter.mp hj).1)
                  simp [this]
                · simp [hp, ha, hl]
            · simp only [h7, if_false, List.append_nil]
              apply List.filter_congr; intro j _
              by_cases hj : j = k
              · subst hj
                have : ((s.context j).state == .lingering) = false := by simp [hl]
                simp [this]
              · simp [hj]
          claims := by
            rw [e.claims, h.claims, List.filter_filter]
            apply List.filter_congr; intro cl _
            by_cases hj : cl.slot = k
            · rw [hj]; simp [hp, ha]
            · simp [hj]
          arrivals := by rw [e.arrivals, h.arrivals, taking_snoc, hx]; simp [hp, ha]
          notices := by
            rw [e.notices, h.notices, h.arrivals, notices_taking_snoc, hx]; simp [hp, ha]
          windows := hw.trans h.windows
          station := by rw [e.rest]; exact h.station }
    · rw [if_neg ha]
      simp only [Bool.not_eq_true] at ha
      by_cases hf : (s.context k).state = .lingering ∧ frees = true
      · rw [if_pos hf]
        have e := freeContext_freed t k
        exact
          { records := fun j => by
              by_cases hj : j = k
              · subst hj; rw [e.record, hx]; simp [hp, hf.1, hf.2, ContextState.active]
              · rw [e.others j hj, h.records j]; simp [hj]
            linger := by
              rw [e.linger, h.linger, List.filter_filter]
              simp only [List.filter_append, List.filter_cons, List.filter_nil, hp, ha, Bool.and_false]
              simp only [Bool.false_eq_true, if_false, List.append_nil]
              congr 1
              · apply List.filter_congr; intro j _
                by_cases hj : j = k
                · subst hj; simp [hp, hf.1, hf.2]
                · simp [hj]
              · apply List.filter_congr; intro j _
                by_cases hj : j = k
                · subst hj; simp [hp, hf.1, hf.2]
                · simp [hj]
            claims := by
              rw [e.claims, h.claims, List.filter_filter]
              apply List.filter_congr; intro cl _
              by_cases hj : cl.slot = k
              · rw [hj]; simp [hp, hf.1, hf.2]
              · simp [hj]
            arrivals := by rw [e.rest]; simp [h.arrivals, ha]
            notices := by rw [e.rest]; simp [h.notices, ha]
            windows := by rw [e.rest]; exact h.windows
            station := by rw [e.rest]; exact h.station }
      · rw [if_neg hf]
        have hf' : ((s.context k).state == .lingering && frees) = false := by
          cases hfr : frees <;> simp [hfr] at hf ⊢; exact hf
        exact
          { records := fun j => by
              rw [h.records j]
              by_cases hj : j = k
              · subst hj; simp [hk, ha, Bool.and_assoc, hf']
              · simp [hj]
            linger := by
              rw [h.linger]
              simp only [List.filter_append, List.filter_cons, List.filter_nil, hp, ha, Bool.and_false]
              simp only [Bool.false_eq_true, if_false, List.append_nil]
              congr 1 <;>
              · apply List.filter_congr; intro j _
                by_cases hj : j = k
                · subst hj; simp [hk, Bool.and_assoc, hf']
                · simp [hj]
            claims := by
              rw [h.claims]; apply List.filter_congr; intro cl _
              by_cases hj : cl.slot = k
              · rw [hj]; simp [hk, ha, hf']
              · simp [hj]
            arrivals := by rw [h.arrivals]; simp [ha]
            notices := by rw [h.notices]; simp [ha]
            windows := h.windows
            station := h.station }
  · rw [if_neg hp]
    simp only [Bool.not_eq_true] at hp
    exact
      { records := fun j => by
          rw [h.records j]
          by_cases hj : j = k
          · subst hj; simp [hp]
          · simp [hj]
        linger := by
          rw [h.linger]
          simp only [List.filter_append, List.filter_cons, List.filter_nil, hp, Bool.false_and]
          simp only [Bool.false_eq_true, if_false, List.append_nil]
          congr 1 <;>
          · apply List.filter_congr; intro j _
            by_cases hj : j = k
            · subst hj; simp [hp]
            · simp [hj]
        claims := by
          rw [h.claims]; apply List.filter_congr; intro cl _
          by_cases hj : cl.slot = k
          · rw [hj]; simp [hp]
          · simp [hj]
        arrivals := by rw [h.arrivals]; simp [hp]
        notices := by rw [h.notices]; simp [hp]
        windows := h.windows
        station := h.station }

/-- An event over all slots: what it does to the contexts and the queue, and the notices of its appends (R162). -/
theorem contexts_take (p : Context → Bool) (r : Result) (frees : Bool) (hr : r ≠ .ok) (s : State) :
    ContextsTake p r frees s (allSlots.foldl (endWhere p r frees) s) ∧
      (allSlots.foldl (endWhere p r frees) s).port.notices = s.port.notices.taking s.arrivals (s.recordsOf p r) ∧
      (allSlots.foldl (endWhere p r frees) s).windows = s.windows := by
  have h := ((((ContextsTakeOn.nil p r frees s).snoc 0 (by decide) hr).snoc 1 (by decide) hr).snoc 2
    (by decide) hr).snoc 3 (by decide) hr
  have ha : ∀ k : SlotNo, k ∈ [] ++ [0] ++ [1] ++ [2] ++ [(3 : SlotNo)] := by decide
  refine ⟨⟨fun k => ?_, ?_, ?_, h.arrivals⟩, h.notices, h.windows⟩
  · rw [show (allSlots.foldl (endWhere p r frees) s).context k = _ from h.records k]; simp only [ha, decide_true, Bool.true_and]
  · rw [show (allSlots.foldl (endWhere p r frees) s).ctxs.linger = _ from h.linger]
    simp only [ha, decide_true, Bool.true_and, List.filter_append]
    congr 1
    split
    · rw [List.filter_eq_self.mpr]
      · simp only [← List.filter_append]; rfl
      · intro k hk
        simp only [← List.filter_append] at hk
        have := (List.mem_filter.mp hk).2
        cases hst : (s.context k).state <;> simp [hst, ContextState.active] at this ⊢
    · rfl
  · rw [show (allSlots.foldl (endWhere p r frees) s).ctxs.claims = _ from h.claims]
    simp only [ha, decide_true, Bool.true_and]

/-- A peer event at the Responder Engine (R166). -/
theorem contextsPeerEvent_takes (s : State) (p : StationNo) :
    ContextsTake (fun x => x.initiator == p) .peerGone true s (contextsPeerEvent p s) :=
  (contexts_take _ _ true (by decide) s).1

/-- Entry to WITHDRAWING at the Responder Engine (R167). -/
theorem contextsWithdraw_takes (s : State) : ContextsTake (fun _ => true) .withdrawn true s (contextsWithdraw s) :=
  (contexts_take _ _ true (by decide) s).1

/-- Entry to CLASH at the Responder Engine (R167). -/
theorem contextsClash_takes (s : State) : ContextsTake (fun _ => true) .clash true s (contextsClash s) :=
  (contexts_take _ _ true (by decide) s).1

/-- CLOSE_WINDOW at the Responder Engine (R165). -/
theorem contextsWindowClosed_takes (s : State) (w : Fin 8) :
    ContextsTake (onWindow w) .windowClosed false s (contextsWindowClosed w s) :=
  (contexts_take _ _ false (by decide) s).1

end Sys2Proof.Machine
end

