-- ==== Sys2Proof/Laws/Entries.lean ====
section
/-! SUPPORT. What a peer event and the entries to WITHDRAWING, WITHDRAWN and CLASH do to the whole state, each said once
in the words of Safety (R55 to R57, R69, R121 to R123, R166, R167). -/

namespace Sys2Proof.Machine

/-- Contexts and the queue under an event that follows a change of channels alone. -/
theorem ContextsTake.after {p : Context → Bool} {r : Result} {frees : Bool} {s u t : State}
    (h : ContextsTake p r frees u t) (hc : u.ctxs = s.ctxs) (ha : u.arrivals = s.arrivals) (hw : u.windows = s.windows)
    (hs : u.station.conf = s.station.conf) : ContextsTake p r frees s t := by
  have hx : ∀ k, u.context k = s.context k := fun k => by simp only [State.context, hc]
  have hv : ∀ w, u.window w = s.window w := fun w => by simp only [State.window, hw]
  exact
    { records := fun k => by rw [h.records k]; simp only [hx, hv, hs]
      linger := by rw [h.linger]; simp only [State.slotsWith, hx, hc]
      claims := by rw [h.claims]; simp only [hx, hc]
      arrivals := by rw [h.arrivals]; simp only [State.slotsWith, hx, ha] }

/-- Channels under an event that a change of the contexts follows. -/
theorem ChannelsTake.before {g : Channel → Channel} {s u t : State} (h : ChannelsTake g s u) (hc : t.chans = u.chans)
    (he : t.port.ended = u.port.ended) (hp : t.port.progress = u.port.progress) : ChannelsTake g s t :=
  { records := fun c => by rw [show t.channel c = u.channel c by simp only [State.channel, hc]]; exact h.records c
    marks := fun c => by rw [he]; exact h.marks c
    claims := by rw [hc]; exact h.claims
    progress := hp.trans h.progress }

/-- Channels under an event that follows changes elsewhere. -/
theorem ChannelsTake.after {g : Channel → Channel} {s u t : State} (h : ChannelsTake g u t) (hc : u.chans = s.chans)
    (he : u.port.ended = s.port.ended) (hp : u.port.progress = s.port.progress) : ChannelsTake g s t := by
  have hx : ∀ c, u.channel c = s.channel c := fun c => by simp only [State.channel, hc]
  exact
    { records := fun c => by rw [h.records c, hx]
      marks := fun c => by rw [h.marks c, he, hx]
      claims := by rw [h.claims]; simp only [hx, hc]
      progress := h.progress.trans hp }

/-- An event over the channels, then over the contexts. -/
theorem engines_take {g : Channel → Channel} {p : Context → Bool} {r : Result} (hr : r ≠ .ok) {s u : State}
    (h₁ : ChannelsTake g s u) (o₁ : ChannelsOnly s u) (t : State) (ht : t = allSlots.foldl (endWhere p r true) u) :
    ChannelsTake g s t ∧ ContextsTake p r true s t ∧
      t = (((s.setChans t.chans).setCtxs t.ctxs).setArrivals t.arrivals).setPort
        { s.port with
          ended := t.port.ended, notices := s.port.notices.taking s.arrivals (s.recordsOf p r) } := by
  obtain ⟨h₂, n, w⟩ := contexts_take p r true hr u
  have o₂ := endWhere_foldl_only u allSlots p r true
  rw [← ht] at h₂ n w o₂
  unfold ChannelsOnly at o₁
  unfold ContextsOnly at o₂
  have c1 : t.chans = u.chans := by rw [o₂]
  have c2 : t.port.ended = u.port.ended := by rw [o₂]
  have c3 : t.port.progress = u.port.progress := by rw [o₂]
  have d1 : u.ctxs = s.ctxs := by rw [o₁]
  have d2 : u.arrivals = s.arrivals := by rw [o₁]
  have d3 : u.windows = s.windows := by rw [o₁]
  have d4 : u.station = s.station := by rw [o₁]
  have d5 : u.port.notices = s.port.notices := by rw [o₁]
  have hx : u.recordsOf p r = s.recordsOf p r := by
    have hx : ∀ k, u.context k = s.context k := fun k => by simp only [State.context, d1]
    simp only [State.recordsOf, State.slotsWith, hx]
  refine ⟨h₁.before c1 c2 c3, h₂.after d1 d2 d3 (by rw [d4]), ?_⟩
  have hp := h₁.progress
  rw [d5, d2, hx] at n
  rw [← n, c1, c2]
  rw [w, d3] at o₂
  rw [o₁, hp] at o₂
  exact o₂

/-- Both engines under an event, as one: what `engines_take` gives of its last state. -/
structure EnginesTake (g : Channel → Channel) (p : Context → Bool) (r : Result) (s t : State) : Prop where
  channels : ChannelsTake g s t
  contexts : ContextsTake p r true s t
  rest : t = (((s.setChans t.chans).setCtxs t.ctxs).setArrivals t.arrivals).setPort
    { s.port with ended := t.port.ended, notices := s.port.notices.taking s.arrivals (s.recordsOf p r) }

namespace EnginesTake

variable {g : Channel → Channel} {p : Context → Bool} {r : Result} {s t : State}

theorem station (h : EnginesTake g p r s t) : t.station = s.station := by rw [h.rest]; rfl
theorem peers (h : EnginesTake g p r s t) : t.peers = s.peers := by rw [h.rest]; rfl
theorem lau (h : EnginesTake g p r s t) : t.lau = s.lau := by rw [h.rest]; rfl
theorem rx (h : EnginesTake g p r s t) : t.rx = s.rx := by rw [h.rest]; rfl

end EnginesTake

/-- A peer event at both engines. -/
theorem tellEngines_engines (p : StationNo) (e : PeerEvent) (s : State) :
    EnginesTake (fun ch => if ch.desc.peer = p then ch.interrupted e.condition else ch) (fun x => x.initiator == p)
      .peerGone s (tellEngines p e s) := by
  obtain ⟨h1, h2, h3⟩ := engines_take (p := fun x => x.initiator == p) (r := .peerGone) (by decide)
    (channelsPeerEvent_takes s p e.condition) (channelsPeerEvent_only s p e.condition) (tellEngines p e s)
    (by unfold tellEngines contextsPeerEvent; rfl)
  exact ⟨h1, h2, h3⟩

/-- Entry to WITHDRAWING at both engines. -/
theorem withdraw_engines (s : State) :
    EnginesTake Channel.withdrawn (fun _ => true) .withdrawn s (contextsWithdraw (channelsWithdraw s)) := by
  obtain ⟨h1, h2, h3⟩ := engines_take (p := fun _ => true) (r := .withdrawn) (by decide) (channelsWithdraw_takes s)
    (channelsWithdraw_only s) (contextsWithdraw (channelsWithdraw s)) (by unfold contextsWithdraw; rfl)
  exact ⟨h1, h2, h3⟩

/-- Entry to CLASH at both engines. -/
theorem clash_engines (s : State) :
    EnginesTake Channel.clashed (fun _ => true) .clash s (contextsClash (channelsClash s)) := by
  obtain ⟨h1, h2, h3⟩ := engines_take (p := fun _ => true) (r := .clash) (by decide) (channelsClash_takes s)
    (channelsClash_only s) (contextsClash (channelsClash s)) (by unfold contextsClash; rfl)
  exact ⟨h1, h2, h3⟩

/-- A peer event, with its notice (R68, R69). -/
theorem tellEngines_takes (p : StationNo) (e : PeerEvent) (s : State) :
    PeerEventTaken p e.condition s (raisePeerChange (tellEngines p e s)) := by
  have h := tellEngines_engines p e s
  generalize tellEngines p e s = t at h
  exact
    { channels := h.channels.before rfl rfl rfl
      contexts := ⟨h.contexts.records, h.contexts.linger, h.contexts.claims, h.contexts.arrivals⟩
      rest := by
        have e : t.port = { s.port with
          ended := t.port.ended,
          notices := s.port.notices.taking s.arrivals (s.recordsOf (fun x => x.initiator == p) .peerGone) } :=
          congrArg State.port h.rest
        generalize s.recordsOf (fun x => x.initiator == p) .peerGone = rs at e
        have e2 : raisePeerChange t = t.setPort { t.port with notices := { t.port.notices with peerChange := true } } :=
          rfl
        rw [e2]
        have h3 : t = _ := h.rest
        cases t
        simp only [State.setPort] at *
        injection h3 with a1 a2 a3 a4 a5 a6 a7 a8 a9 a10 a11 a12 a13
        subst_vars
        simp only [State.setChans, State.setCtxs, State.setArrivals]
        rw [e] }

/-- The table's clearing, the SELF entry kept as it reads (R61, R70). -/
theorem peersCleared (s t : State)
    (h : t.peers = PeerTable.cleared s.station.number (s.peer s.station.number).joinCount) : PeersCleared s t := by
  have hp : t.peers.presenceTimer = none := by rw [h, PeerTable.cleared]
  refine ⟨hp, fun p => ?_⟩
  have he : t.peer p = if p = s.station.number then Peer.ofSelf (s.peer s.station.number).joinCount else Peer.cleared := by
    generalize (s.peer s.station.number).joinCount = n at h ⊢
    unfold State.peer
    rw [h]
    simp only [PeerTable.cleared, Vector.getElem_ofFn]
  rw [he]
  by_cases hq : p = s.station.number
  · rw [if_pos hq, if_pos hq, if_pos hq, hq]; rfl
  · rw [if_neg hq, if_neg hq, if_neg hq]; rfl

/-- The clearing on entry to WITHDRAWN and CLASH, as one update (R69, R70). -/
theorem clearPeersNoticed_eq (s : State) :
    clearPeersNoticed s = ((s.setPeers
      (PeerTable.cleared s.station.number (s.peer s.station.number).joinCount)).setStation
        { s.station with presenceDue := false }).setPort
          { s.port with notices := { s.port.notices with peerChange := s.port.notices.peerChange || s.anyPresent } } := by
  unfold clearPeersNoticed clearPeers
  dsimp only
  generalize PeerTable.cleared s.station.number (s.peer s.station.number).joinCount = pt
  generalize s.anyPresent = b
  cases b
  · rw [Bool.or_false, if_neg Bool.false_ne_true]; rfl
  · rw [Bool.or_true, if_pos rfl]; rfl

/-- Entry to WITHDRAWING (R55). -/
theorem enterWithdrawing_enters (s : State) : EntersWithdrawing s (enterWithdrawing s) := by
  let u := (enterMode .withdrawing s).setStation { (enterMode .withdrawing s).station with
    leaveReady := true, joinReady := false, withdrawPending := false }
  have h := withdraw_engines u
  show EntersWithdrawing s (stopPresence (contextsWithdraw (channelsWithdraw u)))
  generalize contextsWithdraw (channelsWithdraw u) = t at h ⊢
  have hs : (stopPresence t).station = { s.station with
      mode := .withdrawing, leaveReady := true, joinReady := false, presenceDue := false, withdrawPending := false } := by
    show ({ t.station with presenceDue := false } : Station) = _
    rw [h.station]; rfl
  have hp : (stopPresence t).peers = { s.peers with presenceTimer := none } := by
    show ({ t.peers with presenceTimer := none } : PeerTable) = _
    rw [h.peers]; rfl
  have h1 : ChannelsTake Channel.withdrawn s t := h.channels.after rfl rfl rfl
  have h2 : ContextsTake (fun _ => true) .withdrawn true s t := h.contexts.after rfl rfl rfl rfl
  exact
    { station := hs
      peers := hp
      channels := h1.before rfl rfl rfl
      contexts := ⟨h2.records, h2.linger, h2.claims, h2.arrivals⟩
      rest := by
        rw [hs, hp]
        unfold stopPresence
        conv_lhs => rw [h.rest]
        rfl }
/-- WITHDRAWN straight from OFFLINE, LISTENING or JOINING (R56). -/
theorem withdrawAtOnce_enters (s : State) : EntersWithdrawn s (withdrawAtOnce s) := by
  have h := withdraw_engines s
  unfold withdrawAtOnce
  generalize contextsWithdraw (channelsWithdraw s) = v at h ⊢
  have hany : v.anyPresent = s.anyPresent := by
    simp only [State.anyPresent]; congr 1; funext p; simp only [State.present, State.peer, h.peers]
  let u := ((enterMode .withdrawn v).setStation (enterMode .withdrawn v).station.emptied).setLau v.lau.silenced
  have hu : enterWithdrawn v = clearPeersNoticed u := rfl
  have hany2 : u.anyPresent = s.anyPresent := hany
  rw [hu, clearPeersNoticed_eq, hany2]
  have hs : ({ u.station with presenceDue := false } : Station) = s.station.silentIn .withdrawn := by
    show ({ ({ v.station with mode := .withdrawn } : Station).emptied with presenceDue := false } : Station) = _
    rw [h.station]; rfl
  have hl : u.lau = { s.lau with phase := .silent, ask := none, answer := none } := by
    show v.lau.silenced = _
    rw [h.lau]; rfl
  have hp : PeerTable.cleared u.station.number (u.peer u.station.number).joinCount =
      PeerTable.cleared s.station.number (s.peer s.station.number).joinCount := by
    show PeerTable.cleared v.station.number (v.peer v.station.number).joinCount = _
    simp only [State.peer, h.station, h.peers]
  rw [hs, hp]
  have hc : ChannelsTake Channel.withdrawn s v := h.channels
  have hx : ContextsTake (fun _ => true) .withdrawn true s v := h.contexts
  obtain ⟨a, b, c, d, hv⟩ : ∃ a b c d, v = (((s.setChans a).setCtxs b).setArrivals c).setPort
    { s.port with
      ended := d, notices := s.port.notices.taking s.arrivals (s.recordsOf (fun _ => true) .withdrawn) } :=
    ⟨_, _, _, _, h.rest⟩
  exact
    { station := rfl
      lau := hl
      peers := peersCleared s _ rfl
      channels := hc.before rfl rfl rfl
      contexts := ⟨hx.records, hx.linger, hx.claims, hx.arrivals⟩
      rest := by
        generalize s.anyPresent = x
        generalize PeerTable.cleared s.station.number (s.peer s.station.number).joinCount = pt
        subst hv
        rfl }

/-- Entry to CLASH (R57). -/
theorem enterClash_enters (s : State) : EntersClash s (enterClash s) := by
  unfold enterClash
  dsimp only
  have hv := clearPeersNoticed_eq
    ((((enterMode .clash s).setStation (enterMode .clash s).station.emptied).setLau s.lau.silenced).setRx [])
  have hany : ((((enterMode .clash s).setStation (enterMode .clash s).station.emptied).setLau s.lau.silenced).setRx
    []).anyPresent = s.anyPresent := rfl
  rw [hany] at hv
  generalize clearPeersNoticed _ = v at hv ⊢
  have h := clash_engines v
  generalize contextsClash _ = t at h ⊢
  have h1 := (h.channels.after (by rw [hv]; rfl) (by rw [hv]; rfl) (by rw [hv]; rfl) :
    ChannelsTake Channel.clashed s t)
  have h2 := (h.contexts.after (by rw [hv]; rfl) (by rw [hv]; rfl) (by rw [hv]; rfl) (by rw [hv]; rfl) :
    ContextsTake _ _ _ s t)
  have hn : v.recordsOf (fun _ => true) .clash = s.recordsOf (fun _ => true) .clash := by rw [hv]; rfl
  have hst := h.station
  have hla := h.lau
  have hrx := h.rx
  have hpe := h.peers
  have hre := h.rest
  rw [hn] at hre
  exact
    { station := by rw [hst, hv]; rfl
      lau := by rw [hla, hv]; rfl
      rx := by rw [hrx, hv]; rfl
      peers := peersCleared s t (by rw [hpe, hv]; rfl)
      channels := h1
      contexts := h2
      rest := by
        rw [hpe, hst, hla, hrx]
        conv_lhs => rw [hre]
        rw [hv]
        rfl }

end Sys2Proof.Machine
end

