-- ==== Sys2Proof/Laws/Station.lean ====
section
/-! SUPPORT. What no operation of the Peer Table, the Station Controller and the LAU touches: the queue, the station
number, RESET_N, the mailbox's areas and the transaction; and, where no payload is written, buffer memory. Both are
equivalences, and each operation stays in its class. -/

namespace Sys2Proof.Machine

/-- What every operation but a reset and a host byte keeps. -/
structure KeepsBase (s t : State) : Prop where
  resetHeld : t.pins.resetHeld = s.pins.resetHeld
  number : t.station.number = s.station.number
  freeCount : t.freeCount = s.freeCount
  pending : t.pending = s.pending
  command : t.port.command = s.port.command
  mask : t.port.mask = s.port.mask
  spi : t.port.spi = s.port.spi
  latch : t.port.latch = s.port.latch

/-- And what every one of them that writes no payload keeps too. -/
structure Keeps (s t : State) : Prop extends KeepsBase s t where
  buffer : t.buffer = s.buffer
  so : t.port.so = s.port.so
  claims : t.port.claims = s.port.claims

namespace KeepsBase

@[simp] theorem refl (s : State) : KeepsBase s s := ⟨rfl, rfl, rfl, rfl, rfl, rfl, rfl, rfl⟩

theorem trans {s t u : State} (h : KeepsBase s t) (g : KeepsBase t u) : KeepsBase s u :=
  ⟨g.resetHeld.trans h.resetHeld, g.number.trans h.number, g.freeCount.trans h.freeCount, g.pending.trans h.pending,
    g.command.trans h.command, g.mask.trans h.mask, g.spi.trans h.spi, g.latch.trans h.latch⟩

theorem symm {s t : State} (h : KeepsBase s t) : KeepsBase t s :=
  ⟨h.resetHeld.symm, h.number.symm, h.freeCount.symm, h.pending.symm, h.command.symm, h.mask.symm, h.spi.symm,
    h.latch.symm⟩

theorem iff {s t u : State} (h : KeepsBase t u) : KeepsBase s u ↔ KeepsBase s t :=
  ⟨fun g => g.trans h.symm, fun g => g.trans h⟩

theorem ofEngines {s t : State} (h : EnginesOnly s t) : KeepsBase s t := by
  unfold EnginesOnly at h; rw [h]; exact ⟨rfl, rfl, rfl, rfl, rfl, rfl, rfl, rfl⟩

end KeepsBase

namespace Keeps

@[simp] theorem refl (s : State) : Keeps s s := ⟨KeepsBase.refl s, rfl, rfl, rfl⟩

theorem trans {s t u : State} (h : Keeps s t) (g : Keeps t u) : Keeps s u :=
  ⟨h.toKeepsBase.trans g.toKeepsBase, g.buffer.trans h.buffer, g.so.trans h.so, g.claims.trans h.claims⟩

theorem symm {s t : State} (h : Keeps s t) : Keeps t s :=
  ⟨h.toKeepsBase.symm, h.buffer.symm, h.so.symm, h.claims.symm⟩

theorem iff {s t u : State} (h : Keeps t u) : Keeps s u ↔ Keeps s t := ⟨fun g => g.trans h.symm, fun g => g.trans h⟩

theorem ofChannels {s t : State} (h : ChannelsOnly s t) : Keeps s t := by
  unfold ChannelsOnly at h; rw [h]; exact ⟨⟨rfl, rfl, rfl, rfl, rfl, rfl, rfl, rfl⟩, rfl, rfl, rfl⟩

theorem ofContexts {s t : State} (h : ContextsOnly s t) : Keeps s t := by
  unfold ContextsOnly at h; rw [h]; exact ⟨⟨rfl, rfl, rfl, rfl, rfl, rfl, rfl, rfl⟩, rfl, rfl, rfl⟩

end Keeps

variable (s t : State)

/-! ### Updates of a block -/

@[simp] theorem setLau_keeps (x : Lau) : Keeps s (t.setLau x) ↔ Keeps s t :=
  Keeps.iff ⟨⟨rfl, rfl, rfl, rfl, rfl, rfl, rfl, rfl⟩, rfl, rfl, rfl⟩
@[simp] theorem setPhase_keeps (x : Phase) : Keeps s (t.setPhase x) ↔ Keeps s t :=
  Keeps.iff ⟨⟨rfl, rfl, rfl, rfl, rfl, rfl, rfl, rfl⟩, rfl, rfl, rfl⟩
@[simp] theorem setAsk_keeps (x : Option Ask) : Keeps s (t.setAsk x) ↔ Keeps s t :=
  Keeps.iff ⟨⟨rfl, rfl, rfl, rfl, rfl, rfl, rfl, rfl⟩, rfl, rfl, rfl⟩
@[simp] theorem setAnswer_keeps (x : Option Frame) : Keeps s (t.setAnswer x) ↔ Keeps s t :=
  Keeps.iff ⟨⟨rfl, rfl, rfl, rfl, rfl, rfl, rfl, rfl⟩, rfl, rfl, rfl⟩
@[simp] theorem setL_keeps (l : StationNo) (r : Bool) : Keeps s (t.setL l r) ↔ Keeps s t :=
  Keeps.iff ⟨⟨rfl, rfl, rfl, rfl, rfl, rfl, rfl, rfl⟩, rfl, rfl, rfl⟩
@[simp] theorem setRx_keeps (x : List Byte) : Keeps s (t.setRx x) ↔ Keeps s t :=
  Keeps.iff ⟨⟨rfl, rfl, rfl, rfl, rfl, rfl, rfl, rfl⟩, rfl, rfl, rfl⟩
@[simp] theorem setPeers_keeps (x : PeerTable) : Keeps s (t.setPeers x) ↔ Keeps s t :=
  Keeps.iff ⟨⟨rfl, rfl, rfl, rfl, rfl, rfl, rfl, rfl⟩, rfl, rfl, rfl⟩
@[simp] theorem setPeer_keeps (p : StationNo) (x : Peer) : Keeps s (t.setPeer p x) ↔ Keeps s t :=
  Keeps.iff ⟨⟨rfl, rfl, rfl, rfl, rfl, rfl, rfl, rfl⟩, rfl, rfl, rfl⟩
@[simp] theorem setChans_keeps (x : ChannelEngine) : Keeps s (t.setChans x) ↔ Keeps s t :=
  Keeps.iff ⟨⟨rfl, rfl, rfl, rfl, rfl, rfl, rfl, rfl⟩, rfl, rfl, rfl⟩
@[simp] theorem setChannel_keeps (c : ChannelNo) (x : Channel) : Keeps s (t.setChannel c x) ↔ Keeps s t :=
  Keeps.iff ⟨⟨rfl, rfl, rfl, rfl, rfl, rfl, rfl, rfl⟩, rfl, rfl, rfl⟩
@[simp] theorem setCtxs_keeps (x : ResponderEngine) : Keeps s (t.setCtxs x) ↔ Keeps s t :=
  Keeps.iff ⟨⟨rfl, rfl, rfl, rfl, rfl, rfl, rfl, rfl⟩, rfl, rfl, rfl⟩
@[simp] theorem setContext_keeps (k : SlotNo) (x : Context) : Keeps s (t.setContext k x) ↔ Keeps s t :=
  Keeps.iff ⟨⟨rfl, rfl, rfl, rfl, rfl, rfl, rfl, rfl⟩, rfl, rfl, rfl⟩
@[simp] theorem setWindows_keeps (x : Vector Window 8) : Keeps s (t.setWindows x) ↔ Keeps s t :=
  Keeps.iff ⟨⟨rfl, rfl, rfl, rfl, rfl, rfl, rfl, rfl⟩, rfl, rfl, rfl⟩
@[simp] theorem setWindow_keeps (w : Fin 8) (x : Window) : Keeps s (t.setWindow w x) ↔ Keeps s t :=
  Keeps.iff ⟨⟨rfl, rfl, rfl, rfl, rfl, rfl, rfl, rfl⟩, rfl, rfl, rfl⟩
@[simp] theorem setArrivals_keeps (x : ArrivalQueue) : Keeps s (t.setArrivals x) ↔ Keeps s t :=
  Keeps.iff ⟨⟨rfl, rfl, rfl, rfl, rfl, rfl, rfl, rfl⟩, rfl, rfl, rfl⟩
@[simp] theorem setNotices_keeps (x : Notices) : Keeps s (t.setNotices x) ↔ Keeps s t :=
  Keeps.iff ⟨⟨rfl, rfl, rfl, rfl, rfl, rfl, rfl, rfl⟩, rfl, rfl, rfl⟩
@[simp] theorem setLineActive_keeps (b : Bool) : Keeps s (t.setLineActive b) ↔ Keeps s t :=
  Keeps.iff ⟨⟨rfl, rfl, rfl, rfl, rfl, rfl, rfl, rfl⟩, rfl, rfl, rfl⟩
@[simp] theorem setStation_keeps (x : Station) (h : x.number = t.station.number) :
    Keeps s (t.setStation x) ↔ Keeps s t := Keeps.iff ⟨⟨rfl, h, rfl, rfl, rfl, rfl, rfl, rfl⟩, rfl, rfl, rfl⟩

/-! ### The Peer Table -/

@[simp] theorem raisePeerChange_keeps : Keeps s (raisePeerChange t) ↔ Keeps s t :=
  Keeps.iff (by
    exact (setNotices_keeps t t _).mpr (Keeps.refl t))
@[simp] theorem raiseStateChange_keeps : Keeps s (raiseStateChange t) ↔ Keeps s t :=
  Keeps.iff (by
    exact (setNotices_keeps t t _).mpr (Keeps.refl t))
@[simp] theorem refreshPeer_keeps (p : StationNo) : Keeps s (refreshPeer p t) ↔ Keeps s t :=
  Keeps.iff (by
    unfold refreshPeer; try dsimp only
    repeat' split
    all_goals simp -implicitDefEqProofs)
@[simp] theorem tellEngines_keeps (p : StationNo) (e : PeerEvent) : Keeps s (tellEngines p e t) ↔ Keeps s t :=
  Keeps.iff ((Keeps.ofChannels (channelsPeerEvent_only t p _)).trans (Keeps.ofContexts (contextsPeerEvent_only _ p)))
@[simp] theorem peerJoined_keeps (p : StationNo) (a : Announcement) : Keeps s (peerJoined p a t) ↔ Keeps s t :=
  Keeps.iff (by
    unfold peerJoined; try dsimp only
    repeat' split
    all_goals simp -implicitDefEqProofs)
@[simp] theorem peerAnnounced_keeps (p : StationNo) (a : Announcement) : Keeps s (peerAnnounced p a t) ↔ Keeps s t :=
  Keeps.iff (by
    unfold peerAnnounced; try dsimp only
    repeat' split
    all_goals simp -implicitDefEqProofs)
@[simp] theorem peerGone_keeps (p : StationNo) (e : PeerEvent) : Keeps s (peerGone p e t) ↔ Keeps s t :=
  Keeps.iff (by
    simp -implicitDefEqProofs [peerGone])
@[simp] theorem peerLeaves_keeps (p : StationNo) : Keeps s (peerLeaves p t) ↔ Keeps s t :=
  Keeps.iff (by
    unfold peerLeaves; try dsimp only
    repeat' split
    all_goals simp -implicitDefEqProofs)
@[simp] theorem clearPeers_keeps (n : Nat) : Keeps s (clearPeers n t) ↔ Keeps s t :=
  Keeps.iff (by
    simp -implicitDefEqProofs [clearPeers])
@[simp] theorem clearPeersNoticed_keeps : Keeps s (clearPeersNoticed t) ↔ Keeps s t :=
  Keeps.iff (by
    unfold clearPeersNoticed; try dsimp only
    repeat' split
    all_goals simp -implicitDefEqProofs)
@[simp] theorem stopPresence_keeps : Keeps s (stopPresence t) ↔ Keeps s t :=
  Keeps.iff (by
    simp -implicitDefEqProofs [stopPresence])
@[simp] theorem restartPresence_keeps : Keeps s (restartPresence t) ↔ Keeps s t :=
  Keeps.iff (by
    unfold restartPresence; try dsimp only
    repeat' split
    all_goals simp -implicitDefEqProofs)

/-! ### The station states -/

@[simp] theorem enterMode_keeps (m : StationMode) : Keeps s (enterMode m t) ↔ Keeps s t :=
  Keeps.iff (by
    simp -implicitDefEqProofs [enterMode])
@[simp] theorem enterListening_keeps : Keeps s (enterListening t) ↔ Keeps s t :=
  Keeps.iff (by
    simp -implicitDefEqProofs [enterListening])
@[simp] theorem enterJoining_keeps : Keeps s (enterJoining t) ↔ Keeps s t :=
  Keeps.iff (by
    simp -implicitDefEqProofs [enterJoining])
@[simp] theorem checkListening_keeps : Keeps s (checkListening t) ↔ Keeps s t :=
  Keeps.iff (by
    unfold checkListening; try dsimp only
    repeat' split
    all_goals simp -implicitDefEqProofs)
@[simp] theorem channelsWithdraw_keeps : Keeps s (channelsWithdraw t) ↔ Keeps s t := Keeps.iff (Keeps.ofChannels (channelsWithdraw_only t))
@[simp] theorem channelsClash_keeps : Keeps s (channelsClash t) ↔ Keeps s t := Keeps.iff (Keeps.ofChannels (channelsClash_only t))
@[simp] theorem contextsWithdraw_keeps : Keeps s (contextsWithdraw t) ↔ Keeps s t := Keeps.iff (Keeps.ofContexts (contextsWithdraw_only t))
@[simp] theorem contextsClash_keeps : Keeps s (contextsClash t) ↔ Keeps s t := Keeps.iff (Keeps.ofContexts (contextsClash_only t))
@[simp] theorem enterWithdrawing_keeps : Keeps s (enterWithdrawing t) ↔ Keeps s t :=
  Keeps.iff (by
    simp -implicitDefEqProofs [enterWithdrawing])
@[simp] theorem enterWithdrawn_keeps : Keeps s (enterWithdrawn t) ↔ Keeps s t :=
  Keeps.iff (by
    simp -implicitDefEqProofs [enterWithdrawn, Station.emptied])
@[simp] theorem withdrawAtOnce_keeps : Keeps s (withdrawAtOnce t) ↔ Keeps s t :=
  Keeps.iff (by
    simp -implicitDefEqProofs [withdrawAtOnce])
@[simp] theorem enterClash_keeps : Keeps s (enterClash t) ↔ Keeps s t :=
  Keeps.iff (by
    simp -implicitDefEqProofs [enterClash, Station.emptied])
@[simp] theorem reportClash_keeps : Keeps s (reportClash t) ↔ Keeps s t :=
  Keeps.iff (by
    unfold reportClash; try dsimp only
    repeat' split
    all_goals simp -implicitDefEqProofs)
@[simp] theorem applyWithdrawal_keeps : Keeps s (applyWithdrawal t) ↔ Keeps s t :=
  Keeps.iff (by
    unfold applyWithdrawal; try dsimp only
    repeat' split
    all_goals simp -implicitDefEqProofs)

/-! ### The LAU -/

@[simp] theorem channelOutcome_keeps (c : ChannelNo) (o : AskOutcome) : Keeps s (channelOutcome c o t) ↔ Keeps s t :=
  Keeps.iff (Keeps.ofChannels (channelOutcome_only t c o))
@[simp] theorem contextOutcome_keeps (k : SlotNo) (o : AskOutcome) : Keeps s (contextOutcome k o t) ↔ Keeps s t :=
  Keeps.iff (Keeps.ofContexts (contextOutcome_only t k o))
@[simp] theorem resolveAsk_keeps (o : AskOutcome) : Keeps s (resolveAsk o t) ↔ Keeps s t :=
  Keeps.iff (by
    unfold resolveAsk; try dsimp only
    repeat' split
    all_goals simp -implicitDefEqProofs)
@[simp] theorem beginActivity_keeps : Keeps s (beginActivity t) ↔ Keeps s t :=
  Keeps.iff (by
    unfold beginActivity; try dsimp only
    repeat' split
    all_goals simp -implicitDefEqProofs)
@[simp] theorem endUnseen_keeps : Keeps s (endUnseen t) ↔ Keeps s t :=
  Keeps.iff (by
    unfold endUnseen; try dsimp only
    repeat' split
    all_goals simp -implicitDefEqProofs)
@[simp] theorem endCorrupted_keeps (bs : List Byte) : Keeps s (endCorrupted bs t) ↔ Keeps s t :=
  Keeps.iff (by
    unfold endCorrupted; try dsimp only
    repeat' split
    all_goals simp -implicitDefEqProofs)
@[simp] theorem flagAsk_keeps (src : Source) : Keeps s (flagAsk src t) ↔ Keeps s t :=
  Keeps.iff (by
    cases src <;> simp [flagAsk])
@[simp] theorem beginAsk_keeps (src : Source) : Keeps s (beginAsk src t) ↔ Keeps s t :=
  Keeps.iff (by
    simp -implicitDefEqProofs [beginAsk])
@[simp] theorem beginPick_keeps (p : Pick) : Keeps s (beginPick p t) ↔ Keeps s t :=
  Keeps.iff (by
    cases p <;> simp [beginPick])
@[simp] theorem beginSlot_keeps (k : Nat) : Keeps s (beginSlot k t) ↔ Keeps s t :=
  Keeps.iff (by
    unfold beginSlot; try dsimp only
    repeat' split
    all_goals simp -implicitDefEqProofs)
@[simp] theorem answerInGap_keeps : Keeps s (answerInGap t) ↔ Keeps s t :=
  Keeps.iff (by
    unfold answerInGap; try dsimp only
    repeat' split
    all_goals simp -implicitDefEqProofs)
@[simp] theorem closeGap_keeps : Keeps s (closeGap t) ↔ Keeps s t :=
  Keeps.iff (by
    unfold closeGap; try dsimp only
    repeat' split
    all_goals simp -implicitDefEqProofs)
@[simp] theorem broadcastSent_keeps (k : FrameKind) : Keeps s (broadcastSent k t) ↔ Keeps s t :=
  Keeps.iff (by
    unfold broadcastSent; try dsimp only
    repeat' split
    all_goals simp -implicitDefEqProofs)
@[simp] theorem askSent_keeps (f : Frame) : Keeps s (askSent f t) ↔ Keeps s t :=
  Keeps.iff (by
    unfold askSent; try dsimp only
    repeat' split
    all_goals simp -implicitDefEqProofs)
@[simp] theorem endTransmission_keeps : Keeps s (endTransmission t) ↔ Keeps s t :=
  Keeps.iff (by
    unfold endTransmission; try dsimp only
    repeat' split
    all_goals simp -implicitDefEqProofs)
@[simp] theorem countClash_keeps : Keeps s (countClash t) ↔ Keeps s t :=
  Keeps.iff (by
    unfold countClash; try dsimp only
    repeat' split
    all_goals simp -implicitDefEqProofs)
@[simp] theorem collide_keeps : Keeps s (collide t) ↔ Keeps s t :=
  Keeps.iff (by
    unfold collide; try dsimp only
    repeat' split
    all_goals simp -implicitDefEqProofs)
@[simp] theorem endJam_keeps (active : Bool) : Keeps s (endJam active t) ↔ Keeps s t :=
  Keeps.iff (by
    unfold endJam; try dsimp only
    repeat' split
    all_goals simp -implicitDefEqProofs)

/-! ### Arrivals -/

theorem deliver_keeps (f : Frame) (act : State → Answer × State) (h : EnginesOnly s (act s).2) :
    KeepsBase s (deliver f act s) := by
  unfold deliver; split
  · exact (KeepsBase.ofEngines h).trans ((setAnswer_keeps _ _ _).mpr (Keeps.refl _)).toKeepsBase
  · exact KeepsBase.refl s

theorem refreshed (p : StationNo) : KeepsBase s (refreshPeer p s) :=
  ((refreshPeer_keeps s s p).mpr (Keeps.refl s)).toKeepsBase

theorem requestOwner_keeps (f : Frame) (q : RequestBody) : KeepsBase s (requestOwner f q s) :=
  (refreshed s f.src).trans (deliver_keeps _ f _ (EnginesOnly.ofContexts (takeRequest_only _ _ _ q)))

theorem dataOwner_keeps (f : Frame) : KeepsBase s (dataOwner f s) := by
  unfold dataOwner; split
  · refine (refreshed s f.src).trans (deliver_keeps _ f _ ?_)
    generalize refreshPeer f.src s = t
    split
    · exact EnginesOnly.refl t
    · exact takeChannelData_only _ _ _ _ _
  · exact (refreshed s f.src).trans
      (deliver_keeps _ f _ (byIdentity_only _ _ _ _ fun j => dataToContext_only _ j _ _))

theorem closeOwner_keeps (f : Frame) : KeepsBase s (closeOwner f s) :=
  (refreshed s f.src).trans
    (deliver_keeps _ f _ (byIdentity_only _ _ _ _ fun j => EnginesOnly.ofContexts (closeToContext_only _ j)))

theorem abortOwner_keeps (f : Frame) : KeepsBase s (abortOwner f s) :=
  (refreshed s f.src).trans
    (deliver_keeps _ f _ (byIdentity_only _ _ _ _ fun j => EnginesOnly.ofContexts (abortToContext_only _ j)))

@[simp] theorem answerOwner_keeps (f : Frame) (a : Answer) : Keeps s (answerOwner f a t) ↔ Keeps s t :=
  Keeps.iff (by unfold answerOwner; split <;> simp)

theorem ownerOf_keeps (f : Frame) : KeepsBase s (ownerOf f s) := by
  have h : ∀ t, Keeps s t → KeepsBase s t := fun _ g => g.toKeepsBase
  unfold ownerOf; split
  · exact h _ (by simp)
  · exact h _ (by simp)
  · exact h _ (by simp)
  · exact requestOwner_keeps s f _
  · exact dataOwner_keeps s f
  · exact closeOwner_keeps s f
  · exact abortOwner_keeps s f
  all_goals exact h _ (by simp)

@[simp] theorem lauTakesFrame_keeps (f : Frame) : Keeps s (lauTakesFrame f t) ↔ Keeps s t :=
  Keeps.iff (by unfold lauTakesFrame; dsimp only; split <;> simp)

/-- The arrival of a valid frame, whoever its owner, keeps what every owner keeps. -/
theorem arrive_keeps (f : Frame) (owner : State → State) (h : ∀ t, KeepsBase t (owner t)) :
    KeepsBase s (arrive f owner s) := by
  have g : ∀ t, Keeps s t → KeepsBase s t := fun _ g => g.toKeepsBase
  unfold arrive
  split
  · exact g _ (by simp)
  split
  · exact g _ (by simp)
  simp only
  split
  · exact g _ (by simp)
  · refine KeepsBase.trans ?_ ((checkListening_keeps _ _).mpr (Keeps.refl _)).toKeepsBase
    exact KeepsBase.trans (g _ (by simp)) (h _)

/-! ### Timers -/

@[simp] theorem giveUp_keeps (c : ChannelNo) (why : AbortReason) : Keeps s (giveUp c why t) ↔ Keeps s t :=
  Keeps.iff (Keeps.ofChannels (giveUp_only t c why))
@[simp] theorem endContext_keeps (k : SlotNo) (r : Result) : Keeps s (endContext k r t) ↔ Keeps s t :=
  Keeps.iff (Keeps.ofContexts (endContext_only t k r))
@[simp] theorem freeContext_keeps (k : SlotNo) : Keeps s (freeContext k t) ↔ Keeps s t :=
  Keeps.iff (Keeps.ofContexts (freeContext_only t k))
@[simp] theorem listenExpires_keeps : Keeps s (listenExpires t) ↔ Keeps s t :=
  Keeps.iff (by
    unfold listenExpires; split
    all_goals simp -implicitDefEqProofs)
/-- A timer has run out where it stands at its end. -/
theorem hasRunOut_iff (t : Option Nat) : hasRunOut t = true ↔ t = some 0 := beq_iff_eq

@[simp] theorem peerExpires_keeps (p : StationNo) : Keeps s (peerExpires p t) ↔ Keeps s t :=
  Keeps.iff (by
    unfold peerExpires; split
    all_goals simp -implicitDefEqProofs)
@[simp] theorem presenceExpires_keeps : Keeps s (presenceExpires t) ↔ Keeps s t :=
  Keeps.iff (by
    unfold presenceExpires; split
    all_goals simp -implicitDefEqProofs)
@[simp] theorem dataWaitExpires_keeps (c : ChannelNo) : Keeps s (dataWaitExpires c t) ↔ Keeps s t :=
  Keeps.iff (by
    unfold dataWaitExpires; split
    all_goals simp [enterClose])
@[simp] theorem deadlineExpires_keeps (c : ChannelNo) : Keeps s (deadlineExpires c t) ↔ Keeps s t :=
  Keeps.iff (by
    unfold deadlineExpires; split
    all_goals simp -implicitDefEqProofs)
@[simp] theorem idleExpires_keeps (k : SlotNo) : Keeps s (idleExpires k t) ↔ Keeps s t :=
  Keeps.iff (by
    unfold idleExpires; split
    all_goals simp -implicitDefEqProofs)
@[simp] theorem lingerExpires_keeps (k : SlotNo) : Keeps s (lingerExpires k t) ↔ Keeps s t :=
  Keeps.iff (by
    unfold lingerExpires; split
    all_goals simp -implicitDefEqProofs)
@[simp] theorem channelPauseExpires_keeps (c : ChannelNo) : Keeps s (channelPauseExpires c t) ↔ Keeps s t :=
  Keeps.iff (by
    unfold channelPauseExpires; split
    all_goals simp -implicitDefEqProofs)
@[simp] theorem contextPauseExpires_keeps (k : SlotNo) : Keeps s (contextPauseExpires k t) ↔ Keeps s t :=
  Keeps.iff (by
    unfold contextPauseExpires; split
    all_goals simp -implicitDefEqProofs)

end Sys2Proof.Machine
end

