-- ==== Sys2Proof/Laws/Mailbox.lean ====
section
/-! SUPPORT. Host commands: the parameters as a command reads them, what every command's effect keeps, and what the
mailbox holds after a command. -/

namespace Sys2Proof.Machine

/-! ### Parameters -/

theorem putBytes_other (params : List (Fin 16 × Byte)) (v : Vector Byte 16) (i : Fin 16)
    (h : ∀ p ∈ params, p.1 ≠ i) : (putBytes params v)[i.val] = v[i.val] := by
  induction params generalizing v with
  | nil => rfl
  | cons p rest ih =>
    obtain ⟨j, b⟩ := p
    have hj : j.val ≠ i.val := fun e => h (j, b) (by simp) (Fin.ext e)
    simp only [putBytes]
    rw [ih _ fun q hq => h q (by simp [hq])]
    simp [hj]

/-- Byte i of the COMMAND area as a command taken from it reads it. -/
theorem cmd_commandWritten (code tag : Byte) (params : List (Fin 16 × Byte)) (s : State) (i : Fin 16) :
    (commandWritten code tag params s).cmd i = (putBytes ([(0, code), (1, tag)] ++ params) s.port.command)[i.val] := rfl

/-- Parameters stand above the code and the tag, so a command reads the code and the tag written. -/
theorem putBytes_code (code tag : Byte) (params : List (Fin 16 × Byte)) (v : Vector Byte 16)
    (h : ∀ p ∈ params, 2 ≤ p.1.val) : (putBytes ([(0, code), (1, tag)] ++ params) v)[0] = code := by
  have := putBytes_other params ((v.set 0 code).set 1 tag) 0 fun p hp e => by have := h p hp; rw [e] at this; simp at this
  simpa [putBytes] using this

theorem putBytes_tag (code tag : Byte) (params : List (Fin 16 × Byte)) (v : Vector Byte 16)
    (h : ∀ p ∈ params, 2 ≤ p.1.val) : (putBytes ([(0, code), (1, tag)] ++ params) v)[1] = tag := by
  have := putBytes_other params ((v.set 0 code).set 1 tag) 1 fun p hp e => by have := h p hp; rw [e] at this; simp at this
  simpa [putBytes] using this

/-- A 16-bit parameter is read back from its two bytes. -/
theorem word_hi_lo (w : Word) : word (hi w) (lo w) = w := by
  apply BitVec.eq_of_getLsbD_eq
  intro i hlt
  simp only [word, hi, lo, BitVec.getLsbD_append, BitVec.getLsbD_extractLsb']
  split <;> rename_i h
  · simp [h]
  · have h1 : i - 8 < 8 := by omega
    have e : 8 + (i - 8) = i := by omega
    simp [h1, e]

/-- A 32-bit parameter is read back from its four bytes. -/
theorem dword_bytes (w : BitVec 32) :
    dword (w.extractLsb' 24 8) (w.extractLsb' 16 8) (w.extractLsb' 8 8) (w.extractLsb' 0 8) = w := by
  apply BitVec.eq_of_getLsbD_eq
  intro i hi
  simp only [dword, BitVec.getLsbD_append, BitVec.getLsbD_extractLsb']
  split <;> rename_i h1
  · split <;> rename_i h2
    · simp [h2]
    · have : i - 8 < 8 := by omega
      have e : 8 + (i - 8) = i := by omega
      simp [this, e]
  · split <;> rename_i h2
    · have e : 16 + (i - 16) = i := by omega
      simp [h2, e]
    · have : i - 16 - 8 < 8 := by omega
      have e : 24 + (i - 16 - 8) = i := by omega
      simp [this, e]

/-! ### The state a command is taken in -/

section
variable (code tag : Byte) (params : List (Fin 16 × Byte)) (s : State)

@[simp] theorem commandWritten_pins : (commandWritten code tag params s).pins = s.pins := rfl
@[simp] theorem commandWritten_lau : (commandWritten code tag params s).lau = s.lau := rfl
@[simp] theorem commandWritten_rx : (commandWritten code tag params s).rx = s.rx := rfl
@[simp] theorem commandWritten_station : (commandWritten code tag params s).station = s.station := rfl
@[simp] theorem commandWritten_peers : (commandWritten code tag params s).peers = s.peers := rfl
@[simp] theorem commandWritten_peer (p : StationNo) : (commandWritten code tag params s).peer p = s.peer p := rfl
@[simp] theorem commandWritten_windows : (commandWritten code tag params s).windows = s.windows := rfl
@[simp] theorem commandWritten_window (w : Fin 8) : (commandWritten code tag params s).window w = s.window w := rfl
@[simp] theorem commandWritten_chans : (commandWritten code tag params s).chans = s.chans := rfl
@[simp] theorem commandWritten_channel (c : ChannelNo) : (commandWritten code tag params s).channel c = s.channel c := rfl
@[simp] theorem commandWritten_ctxs : (commandWritten code tag params s).ctxs = s.ctxs := rfl
@[simp] theorem commandWritten_context (k : SlotNo) : (commandWritten code tag params s).context k = s.context k := rfl
@[simp] theorem commandWritten_buffer : (commandWritten code tag params s).buffer = s.buffer := rfl
@[simp] theorem commandWritten_arrivals : (commandWritten code tag params s).arrivals = s.arrivals := rfl
@[simp] theorem commandWritten_freeCount : (commandWritten code tag params s).freeCount = s.freeCount := rfl
@[simp] theorem commandWritten_pending : (commandWritten code tag params s).pending = s.pending := rfl
@[simp] theorem commandWritten_notices : (commandWritten code tag params s).port.notices = s.port.notices := rfl
@[simp] theorem commandWritten_ended : (commandWritten code tag params s).port.ended = s.port.ended := rfl
@[simp] theorem commandWritten_progress : (commandWritten code tag params s).port.progress = s.port.progress := rfl
@[simp] theorem commandWritten_mask : (commandWritten code tag params s).port.mask = s.port.mask := rfl
@[simp] theorem commandWritten_command : (commandWritten code tag params s).port.command =
    putBytes ([(0, code), (1, tag)] ++ params) s.port.command := rfl

/-- The rise of CS_N withdraws the claims once. -/
theorem keptAtRise_keptAtRise (l : List HostClaim) : keptAtRise (keptAtRise l) = keptAtRise l := by
  simp [keptAtRise, List.filter_filter]

/-- The rise of CS_N with no command due. -/
theorem riseCsN_notDue (h : s.port.due = false) : riseCsN s = endTransaction s :=
  if_neg fun e => by rw [show (endTransaction s).port.due = s.port.due from rfl, h] at e; exact Bool.false_ne_true e.1

/-- The rise of CS_N in LOADING takes no command. -/
theorem riseCsN_loading (h : s.station.mode = .loading) : riseCsN s = endTransaction s := if_neg fun e => e.2 h

/-- The rise of CS_N with a command due. -/
theorem riseCsN_due (h : s.port.due = true) (hm : s.station.mode ≠ .loading) :
    riseCsN s = takeCommand commandEffect (endTransaction s) := if_pos ⟨h, hm⟩

/-- The end of a transaction that has ended adds nothing. -/
theorem commandWritten_afterRise :
    commandWritten code tag params (endTransaction s) = commandWritten code tag params s := by
  simp only [commandWritten, endTransaction, putCommand, State.setPort, keptAtRise_keptAtRise]

/-- A host command where the port takes it. -/
theorem hostCommand_taken (effect : State → Reply × State) (h : HostTakes s) :
    hostCommand code tag params effect s = takeCommand effect (commandWritten code tag params s) := by
  have hg : goTaken (commandWritten code tag params s) = true := by
    have e : (commandWritten code tag params s).port.busy = s.port.busy := rfl
    simp [goTaken, e, h.busy, h.serves.2]
  simp only [hostCommand, h.serves.1, riseCsN_notDue s h.due, commandWritten_afterRise, hg, if_true, if_false,
    Bool.false_eq_true]

/-- A host command in LOADING: its bytes are kept, and GO is ignored. -/
theorem hostCommand_loading (effect : State → Reply × State) (hr : s.pins.resetHeld = false)
    (h : s.station.mode = .loading) : hostCommand code tag params effect s = commandWritten code tag params s := by
  have hg : goTaken (commandWritten code tag params s) = false := by simp [goTaken, h]
  simp only [hostCommand, hr, riseCsN_loading s h, commandWritten_afterRise, hg, if_false, Bool.false_eq_true]

/-- What the mailbox holds after a host command whose effect keeps the mailbox. -/
theorem answered (effect : State → Reply × State) (h : HostTakes s) (hp : ∀ p ∈ params, 2 ≤ p.1.val)
    (hk : Keeps (commandWritten code tag params s) (effect (commandWritten code tag params s)).2) :
    Answered s (hostCommand code tag params effect s) code tag params
      (effect (commandWritten code tag params s)).1 := by
  rw [hostCommand_taken code tag params s effect h]
  have hc : (effect (commandWritten code tag params s)).2.cmd 0 = code := by
    show (effect (commandWritten code tag params s)).2.port.command[0] = code
    rw [hk.command]; exact putBytes_code code tag params _ hp
  have ht : (effect (commandWritten code tag params s)).2.cmd 1 = tag := by
    show (effect (commandWritten code tag params s)).2.port.command[1] = tag
    rw [hk.command]; exact putBytes_tag code tag params _ hp
  exact
    { result := by simp only [takeCommand, completeCommand, State.setPort_port, hc, ht]
      cmdDone := rfl
      busy := rfl
      due := rfl
      command := hk.command
      mask := hk.mask
      spi := hk.spi
      so := hk.so
      latch := hk.latch
      claims := hk.claims }

end

/-! ### What every command's effect keeps -/

section
variable (s : State)

theorem onChannel_keeps (act : ChannelNo → State → Reply × State) (h : ∀ c, Keeps s (act c s).2) :
    Keeps s (onChannel act s).2 := by
  unfold onChannel; split
  · exact Keeps.refl s
  · exact h _

theorem joinEffect_keeps : Keeps s (joinEffect s).2 := by unfold joinEffect; split <;> simp

theorem withdrawn_keeps : Keeps s (withdrawn s) := by
  have h : Keeps s (pendWithdrawal s) := by simp -implicitDefEqProofs [pendWithdrawal]
  unfold withdrawn; repeat' split
  · simp
  · simp
  · exact h
  · simp
  · exact h
  · simp
  · simp

theorem withdrawEffect_keeps : Keeps s (withdrawEffect s).2 := by
  unfold withdrawEffect; split
  · exact withdrawn_keeps s
  · simp

theorem restartClear_keeps : Keeps s (restartClear s) :=
  have h : Keeps s ((((clearPeers 0 ((s.setLau Lau.reset).setRx [])).setStation
      (clearPeers 0 ((s.setLau Lau.reset).setRx [])).station.emptied).setChans ChannelEngine.reset).setCtxs
      ResponderEngine.reset) := by simp -implicitDefEqProofs [Station.emptied]
  h.trans ⟨⟨rfl, rfl, rfl, rfl, rfl, rfl, rfl, rfl⟩, rfl, rfl, rfl⟩

theorem enterFirstMode_keeps : Keeps s (enterFirstMode s) := by unfold enterFirstMode; split <;> simp

theorem restartEffect_keeps : Keeps s (restartEffect s).2 := (restartClear_keeps s).trans (enterFirstMode_keeps _)

theorem openWindowEffect_keeps : Keeps s (openWindowEffect s).2 := by
  unfold openWindowEffect; dsimp only; repeat' split
  all_goals simp

@[simp] theorem contextsWindowClosed_keeps (t : State) (w : Fin 8) :
    Keeps s (contextsWindowClosed w t) ↔ Keeps s t := Keeps.iff (Keeps.ofContexts (contextsWindowClosed_only t w))

theorem closeWindowEffect_keeps : Keeps s (closeWindowEffect s).2 := by
  unfold closeWindowEffect; repeat' split
  · simp
  · simp [closeWindow]
  · simp

theorem setValidEffect_keeps : Keeps s (setValidEffect s).2 := by
  unfold setValidEffect; repeat' split
  all_goals simp

theorem takeArrivalEffect_keeps : Keeps s (takeArrivalEffect s).2 := by
  unfold takeArrivalEffect; split <;> simp

theorem startChannel_keeps (c : ChannelNo) : Keeps s (startChannel c s) := Keeps.ofChannels (startChannel_only s c)

theorem endChannel_keeps (c : ChannelNo) (cond : Condition) (d : Byte) : Keeps s (endChannel c cond d s) :=
  Keeps.ofChannels (endChannel_only s c cond d)

theorem clearMarks_keeps (c : ChannelNo) : Keeps s (clearMarks c s) := Keeps.ofChannels (clearMarks_only s c)

theorem startEffect_keeps : Keeps s (startEffect s).2 := onChannel_keeps s _ fun c => by
  unfold startOn; split
  · simp
  · exact Keeps.trans (by simp) (startChannel_keeps _ c)

theorem armEffect_keeps : Keeps s (armEffect s).2 := onChannel_keeps s _ fun c => by
  unfold armOn; dsimp only; repeat' split
  · simp
  · exact Keeps.trans (by simp) (clearMarks_keeps _ c)
  · simp

theorem triggerEffect_keeps : Keeps s (triggerEffect s).2 := onChannel_keeps s _ fun c => by
  unfold triggerOn; repeat' split
  · simp
  · simp
  · exact startChannel_keeps s c
  · exact endChannel_keeps s c _ _

theorem releaseEffect_keeps : Keeps s (releaseEffect s).2 := onChannel_keeps s _ fun c => by
  unfold releaseOn; split
  · exact Keeps.trans (by simp) (clearMarks_keeps _ c)
  · simp

theorem channelInfoEffect_keeps : Keeps s (channelInfoEffect s).2 := onChannel_keeps s _ fun c => by
  unfold channelInfoOn; repeat' split
  all_goals simp

theorem holdEffect_keeps : Keeps s (holdEffect s).2 := onChannel_keeps s _ fun c => by
  unfold holdOn; dsimp only; repeat' split
  · simp
  · exact Keeps.ofChannels (enterHeld_only s c _)
  · simp
  · simp

theorem resumeEffect_keeps : Keeps s (resumeEffect s).2 := onChannel_keeps s _ fun c => by
  unfold resumeOn; split
  · unfold resumeChannel; dsimp only; repeat' split
    · simp
    · simp
    · exact Keeps.trans (by simp) (Keeps.ofChannels (claimFrame_only _ c))
    · simp
    · simp
  · simp

theorem cancelEffect_keeps : Keeps s (cancelEffect s).2 := onChannel_keeps s _ fun c => by
  unfold cancelOn; split
  · exact endChannel_keeps s c _ _
  · simp

theorem setDeadlineEffect_keeps : Keeps s (setDeadlineEffect s).2 := onChannel_keeps s _ fun c => by
  unfold setDeadlineOn; dsimp only; repeat' split
  all_goals simp

theorem clearDeadlineEffect_keeps : Keeps s (clearDeadlineEffect s).2 := onChannel_keeps s _ fun c => by
  unfold clearDeadlineOn; dsimp only; repeat' split
  all_goals simp

theorem dropContextEffect_keeps : Keeps s (dropContextEffect s).2 := by
  unfold dropContextEffect; split
  · simp
  · unfold dropOn; dsimp only; split <;> simp

theorem reports_keep : Keeps s (stationInfoEffect s).2 ∧ Keeps s (peerInfoEffect s).2 ∧ Keeps s (windowInfoEffect s).2 ∧
    Keeps s (contextInfoEffect s).2 := by
  refine ⟨Keeps.refl s, ?_, ?_, ?_⟩
  · unfold peerInfoEffect; split <;> simp
  · unfold windowInfoEffect; split <;> simp
  · unfold contextInfoEffect; repeat' split
    all_goals simp

/-- The effect of every command keeps the mailbox, buffer memory, the station number and the queue. -/
theorem commandEffect_keeps : Keeps s (commandEffect s).2 := by
  unfold commandEffect; split
  · exact joinEffect_keeps s
  · exact withdrawEffect_keeps s
  · exact restartEffect_keeps s
  · exact (reports_keep s).1
  · exact (reports_keep s).2.1
  · exact openWindowEffect_keeps s
  · exact closeWindowEffect_keeps s
  · exact setValidEffect_keeps s
  · exact (reports_keep s).2.2.1
  · exact startEffect_keeps s
  · exact armEffect_keeps s
  · exact triggerEffect_keeps s
  · exact holdEffect_keeps s
  · exact resumeEffect_keeps s
  · exact cancelEffect_keeps s
  · exact setDeadlineEffect_keeps s
  · exact clearDeadlineEffect_keeps s
  · exact channelInfoEffect_keeps s
  · exact releaseEffect_keeps s
  · exact (reports_keep s).2.2.2
  · exact dropContextEffect_keeps s
  · exact takeArrivalEffect_keeps s
  · exact Keeps.refl s

end

end Sys2Proof.Machine
end

