-- ==== Sys2Proof/Laws/HostPort.lean ====
section
/-! SUPPORT. The host port byte by byte: what the opening of a transaction leaves, where a data byte is received, what the
rise of CS_N keeps. -/

namespace Sys2Proof.Machine

/-! ### The opening of a transaction -/

section
variable (s : State) (code : Byte) (address : Word)

/-- The two bytes of an address, read back. -/
theorem address_bytes : (word (hi address) (lo address)).toNat = address.toNat := by rw [word_hi_lo]

/-- An instruction byte of the table and the address after it open its transaction, with SO driven with 0 (R182). -/
theorem openTransaction_eq {kind : SpiKind} (h : spiKind code.toNat = some kind) :
    openTransaction code address s =
      s.setPort { s.port with spi := some { kind := kind, address := address.toNat }, so := some 0 } := by
  simp [openTransaction, openingByte, fallCsN, openedBy, h, address_bytes, State.setPort]

/-- An instruction byte not in the table ends the transaction with no effect (R182). -/
theorem openingByte_bad (h : spiKind code.toNat = none) :
    openingByte code (fallCsN s) =
      s.setPort { s.port with spi := some { kind := .ignored, address := 0 }, so := some 0 } := by
  simp [openingByte, fallCsN, openedBy, h, State.setPort]

/-- A byte that continues a transaction of its kind is received as it stands. -/
theorem atDataByte_further {t : Spi} (hr : s.pins.resetHeld = false) (hs : s.port.spi = some t)
    (hk : spiKind code.toNat = some t.kind) : atDataByte code none s = some s := by
  simp [atDataByte, hr, hs, hk]

/-- A byte that opens a transaction while CS_N is high. -/
theorem atDataByte_first (hr : s.pins.resetHeld = false) (hs : s.port.spi = none) :
    atDataByte code (some address) s = some (openTransaction code address s) := by
  simp [atDataByte, hr, hs]

/-- A byte that opens a transaction while another is in progress: CS_N has risen first (log 16). -/
theorem atDataByte_reopened {t : Spi} (hr : s.pins.resetHeld = false) (hs : s.port.spi = some t) (hk : t.kind ≠ .ignored) :
    atDataByte code (some address) s = some (openTransaction code address (riseCsN s)) := by
  simp [atDataByte, hr, hs, hk]

/-- Every byte after a bad instruction byte is ignored (R182). -/
theorem atDataByte_ignored (first : Option Word) {a : Nat} (hs : s.port.spi = some { kind := .ignored, address := a })
    (hk : spiKind code.toNat ≠ some .ignored) : atDataByte code first s = none := by
  unfold atDataByte
  rw [hs]
  cases first <;> simp [Ne.symm hk]

/-- With RESET_N low no byte is received (R43). -/
theorem atDataByte_held (first : Option Word) (hr : s.pins.resetHeld = true) : atDataByte code first s = none := by
  simp [atDataByte, hr]

/-- The rise of CS_N leaves no transaction in progress. -/
theorem riseCsN_spi : (riseCsN s).port.spi = none := by
  dsimp only [riseCsN]
  split
  · exact (commandEffect_keeps (endTransaction s)).spi
  · rfl

end

/-! ### Register bytes -/

section
variable (s : State) (effect : State → State) (address : Word)

/-- A register byte while CS_N is high opens its transaction, and the address rises (R184). -/
theorem registerByte_first (hr : s.pins.resetHeld = false) (hs : s.port.spi = none) :
    registerByte address effect s = effect (s.setPort { s.port with
      spi := some { kind := .registerWrite, address := address.toNat + 1 }, so := some 0 }) := by
  simp [registerByte, registerFirst, hs, atDataByte_first _ _ _ hr hs,
    openTransaction_eq s 0x41#8 address (kind := .registerWrite) rfl, State.nextAddress, State.spiAddress, State.setPort]

/-- A register byte at the address the register write in progress has reached (R184). -/
theorem registerByte_further (hr : s.pins.resetHeld = false)
    (hs : s.port.spi = some { kind := .registerWrite, address := address.toNat }) :
    registerByte address effect s = effect (s.setPort { s.port with
      spi := some { kind := .registerWrite, address := address.toNat + 1 }, so := some 0 }) := by
  simp [registerByte, registerFirst, hs, atDataByte_further s 0x41#8 hr hs rfl, State.nextAddress, State.spiAddress,
    State.setPort]

/-- A register byte at another address is one of a new transaction: CS_N has risen first (log 16). -/
theorem registerByte_reopened {t : Spi} (hr : s.pins.resetHeld = false) (hs : s.port.spi = some t)
    (hk : t.kind ≠ .ignored) (ha : t ≠ { kind := .registerWrite, address := address.toNat }) :
    registerByte address effect s = registerByte address effect (riseCsN s) := by
  have hr' : (riseCsN s).pins.resetHeld = false := by
    dsimp only [riseCsN]
    split
    · exact (commandEffect_keeps (endTransaction s)).resetHeld.trans hr
    · exact hr
  have e : registerFirst address s = some address := by simp [registerFirst, hs, ha]
  have e' : registerFirst address (riseCsN s) = some address := by simp [registerFirst, riseCsN_spi]
  rw [registerByte, registerByte, e, e', atDataByte_reopened s _ _ hr hs hk,
    atDataByte_first _ _ _ hr' (riseCsN_spi s)]
  simp only [Option.map_some, Option.getD_some]

end

end Sys2Proof.Machine
end

