-- ==== Sys2Proof/Laws/Memory.lean ====
section
/-! SUPPORT. Buffer memory: a byte read after a byte or a run is stored, and the canonical form, which every store
keeps and which makes equal memories equal data. -/

namespace Sys2Proof.Machine

/-! ### The canonical form -/

theorem memWfFrom_cons (n a : Nat) (v : Byte) (m : List Host.Cell) :
    memWfFrom n ((a, v) :: m) = true ↔ n ≤ a ∧ a < 65536 ∧ v ≠ 0#8 ∧ memWfFrom (a + 1) m = true := by
  simp [memWfFrom, and_assoc]

theorem memWfFrom_mono {n n' : Nat} {m : List Host.Cell} (h : memWfFrom n m = true) (hn : n' ≤ n) :
    memWfFrom n' m = true := by
  cases m with
  | nil => rfl
  | cons c m =>
    obtain ⟨a, v⟩ := c
    rw [memWfFrom_cons] at h ⊢
    exact ⟨by omega, h.2⟩

/-- Nothing is listed below the bound of the canonical form. -/
theorem memGet_below {n x : Nat} {m : List Host.Cell} (h : memWfFrom n m = true) (hx : x < n) : memGet m x = 0#8 := by
  induction m generalizing n with
  | nil => rfl
  | cons c m ih =>
    obtain ⟨a, v⟩ := c
    rw [memWfFrom_cons] at h
    have hne : a ≠ x := by omega
    simp only [memGet, hne, if_false]
    exact ih h.2.2.2 (by omega)

/-- A byte stored keeps the canonical form. -/
theorem memPut_wfFrom {n x : Nat} {m : List Host.Cell} (v : Byte) (h : memWfFrom n m = true) (hn : n ≤ x)
    (hx : x < 65536) : memWfFrom n (memPut m x v) = true := by
  induction m generalizing n with
  | nil =>
    by_cases hv : v = 0#8
    · simp [memPut, hv, memWfFrom]
    · simp [memPut, hv, memWfFrom, hn, hx]
  | cons c m ih =>
    obtain ⟨a, w⟩ := c
    have h' := (memWfFrom_cons n a w m).mp h
    by_cases hlt : x < a
    · by_cases hv : v = 0#8
      · simpa [memPut, hlt, hv] using h
      · simp only [memPut, hlt, hv, if_true, if_false]
        exact (memWfFrom_cons ..).mpr ⟨hn, hx, hv, (memWfFrom_cons ..).mpr ⟨by omega, h'.2⟩⟩
    · by_cases he : x = a
      · subst he
        by_cases hv : v = 0#8
        · simp only [memPut, hv, if_true, if_false, Nat.lt_irrefl]
          exact memWfFrom_mono h'.2.2.2 (by omega)
        · simp only [memPut, hv, if_true, if_false, Nat.lt_irrefl]
          exact (memWfFrom_cons ..).mpr ⟨hn, hx, hv, h'.2.2.2⟩
      · simp only [memPut, hlt, he, if_false]
        exact (memWfFrom_cons ..).mpr ⟨h'.1, h'.2.1, h'.2.2.1, ih h'.2.2.2 (by omega)⟩

theorem memPut_wf {x : Nat} {m : List Host.Cell} (v : Byte) (h : Memory.wf m = true) (hx : x < 65536) :
    Memory.wf (memPut m x v) = true := memPut_wfFrom v h (Nat.zero_le _) hx

/-- A run stored keeps the canonical form. -/
theorem memWrite_wf {m : List Host.Cell} (x : Nat) (bs : List Byte) (h : Memory.wf m = true) :
    Memory.wf (memWrite m x bs) = true := by
  induction bs generalizing m x with
  | nil => exact h
  | cons b bs ih => exact ih (x + 1) (memPut_wf b h (Nat.mod_lt _ (by decide)))

/-- Memory after reset has the canonical form. -/
theorem reset_memory_wf : Memory.wf State.reset.buffer.cells = true := rfl

/-! ### Reading after storing -/

/-- A byte read after one byte is stored. -/
theorem memGet_memPut {m : List Host.Cell} (x y : Nat) (v : Byte) (h : Memory.wf m = true) :
    memGet (memPut m x v) y = if y = x then v else memGet m y := by
  suffices ∀ n, memWfFrom n m = true → memGet (memPut m x v) y = if y = x then v else memGet m y from this 0 h
  clear h
  intro n h
  induction m generalizing n with
  | nil =>
    by_cases hv : v = 0#8
    · simp [memPut, hv, memGet]
    · by_cases hy : y = x
      · subst hy; simp [memPut, hv, memGet]
      · simp [memPut, hv, memGet, hy, Ne.symm hy]
  | cons c m ih =>
    obtain ⟨a, w⟩ := c
    have h' := (memWfFrom_cons n a w m).mp h
    by_cases hlt : x < a
    · by_cases hv : v = 0#8
      · simp only [memPut, hlt, hv, if_true]
        by_cases hy : y = x
        · subst hy
          rw [memGet_below (n := a) ((memWfFrom_cons ..).mpr ⟨Nat.le_refl _, h'.2⟩) hlt]
          simp
        · simp [hy]
      · simp only [memPut, hlt, hv, if_true, if_false]
        by_cases hy : y = x
        · subst hy; simp [memGet]
        · have hy' : x ≠ y := fun e => hy e.symm
          simp [memGet, hy, hy']
    · by_cases he : x = a
      · subst he
        by_cases hv : v = 0#8
        · simp only [memPut, hv, if_true, if_false, Nat.lt_irrefl]
          by_cases hy : y = x
          · subst hy; simp [memGet_below h'.2.2.2 (Nat.lt_succ_self _)]
          · have hy' : x ≠ y := fun e => hy e.symm
            simp [memGet, hy, hy']
        · simp only [memPut, hv, if_true, if_false, Nat.lt_irrefl]
          by_cases hy : y = x
          · subst hy; simp [memGet]
          · have hy' : x ≠ y := fun e => hy e.symm
            simp [memGet, hy, hy']
      · simp only [memPut, hlt, he, if_false, memGet]
        by_cases hay : a = y
        · subst hay
          have : ¬ a = x := fun e => he e.symm
          simp [this]
        · simp only [hay, if_false]
          exact ih (a + 1) h'.2.2.2

/-- A byte read after a run is stored within buffer memory. -/
theorem memGet_memWrite {m : List Host.Cell} (x y : Nat) (bs : List Byte) (h : Memory.wf m = true)
    (hx : x + bs.length ≤ 65536) :
    memGet (memWrite m x bs) y = if x ≤ y ∧ y < x + bs.length then bs.getD (y - x) 0 else memGet m y := by
  induction bs generalizing m x with
  | nil =>
    simp [memWrite]
  | cons b bs ih =>
    have hlen : (b :: bs).length = bs.length + 1 := rfl
    have hxm : x % 65536 = x := Nat.mod_eq_of_lt (by omega)
    simp only [memWrite, hxm]
    rw [ih (x + 1) (memPut_wf b h (by omega)) (by omega), memGet_memPut x y b h]
    by_cases hy : y = x
    · subst hy; simp
    · by_cases hin : x + 1 ≤ y ∧ y < x + 1 + bs.length
      · have h1 : x ≤ y ∧ y < x + (bs.length + 1) := by omega
        have h2 : y - x = (y - (x + 1)) + 1 := by omega
        rw [if_pos hin, hlen, if_pos h1, h2, List.getD_cons_succ]
      · have h1 : ¬ (x ≤ y ∧ y < x + (bs.length + 1)) := by omega
        rw [if_neg hin, hlen, if_neg h1, if_neg hy]

theorem memRead_length (m : List Host.Cell) (x n : Nat) : (memRead m x n).length = n := by
  induction n generalizing x with
  | zero => rfl
  | succ n ih => simp [memRead, ih]

/-- Equal memories are equal data. -/
theorem memory_ext {m m' : List Host.Cell} (h : Memory.wf m = true) (h' : Memory.wf m' = true)
    (he : ∀ x, memGet m x = memGet m' x) : m = m' := by
  suffices ∀ n, memWfFrom n m = true → memWfFrom n m' = true → m = m' from this 0 h h'
  clear h h'
  intro n h h'
  induction m generalizing n m' with
  | nil =>
    cases m' with
    | nil => rfl
    | cons c m' =>
      obtain ⟨a, v⟩ := c
      have g := (memWfFrom_cons ..).mp h'
      have := he a
      simp [memGet] at this
      exact absurd this.symm g.2.2.1
  | cons c m ih =>
    obtain ⟨a, v⟩ := c
    have g := (memWfFrom_cons ..).mp h
    cases m' with
    | nil =>
      have := he a
      simp [memGet] at this
      exact absurd this g.2.2.1
    | cons c' m' =>
      obtain ⟨a', v'⟩ := c'
      have g' := (memWfFrom_cons ..).mp h'
      have haa : a = a' := by
        by_contra hne
        rcases Nat.lt_or_gt_of_ne hne with hlt | hlt
        · have e := he a
          have hz : memGet ((a', v') :: m') a = 0#8 :=
            memGet_below (n := a') ((memWfFrom_cons ..).mpr ⟨Nat.le_refl _, g'.2⟩) hlt
          rw [hz] at e
          simp [memGet] at e
          exact g.2.2.1 e
        · have e := he a'
          have hz : memGet ((a, v) :: m) a' = 0#8 :=
            memGet_below (n := a) ((memWfFrom_cons ..).mpr ⟨Nat.le_refl _, g.2⟩) hlt
          rw [hz] at e
          simp [memGet] at e
          exact g'.2.2.1 e.symm
      subst haa
      have hv : v = v' := by simpa [memGet] using he a
      subst hv
      have hm : ∀ x, memGet m x = memGet m' x := fun x => by
        by_cases hx : a = x
        · subst hx
          rw [memGet_below g.2.2.2 (Nat.lt_succ_self _), memGet_below g'.2.2.2 (Nat.lt_succ_self _)]
        · simpa [memGet, hx] using he x
      rw [ih hm (a + 1) g.2.2.2 g'.2.2.2]

end Sys2Proof.Machine
end

