-- ==== Sys2Proof/Tests/Slice0.lean ====
section
/-! SUPPORT. The model's own tests: ill-formed terms that the check refuses, the spec's worked examples, and each command
on a small state. -/

namespace Sys2Proof.Tests

open Sys2Proof.Machine

set_option Elab.async false

/-! ### Small states -/

/-- The state a command leaves. -/
def after (i : Instr) (s : State) : State :=
  match exec i s with
  | .next t => t
  | .fault _ => s
  | .refused _ => s

/-- Commands one after another. -/
def run : List Instr → State → State
  | [], s => s
  | i :: rest, s => run rest (after i s)

/-- Station 3 in a station state, out of LOADING, its line idle, station 7 PRESENT. -/
def working (mode : StationMode) : State :=
  ((({ State.reset with
    station := { Station.reset 3 0 with mode := mode }
    peers := PeerTable.cleared 3 0
    port := { HostPort.reset with busy := false } }).setPhase .quiet).setPeer 7
      { Peer.cleared with state := .present, expiry := some 300 })

/-- Station 3 ONLINE. -/
def online : State := working .online

/-- A phase of the LAU. -/
def inPhase (p : Phase) (s : State) : State := s.setPhase p

/-- A channel of a PUT of 600 bytes to station 7 in a state. -/
def putChannel (st : ChannelState) : Channel :=
  { Channel.reset with
    state := st, remaining := 600, built := true, heldFrame := { payload := [1, 2], tgl := false },
    desc := { Descriptor.empty with
      peer := 7, op := .put, windowId := 3, localAddress := 4096, total := 600, sizeCode := 4, progress := 2 } }

/-- A channel of a GET of 600 bytes from station 7 in a state. -/
def getChannel (st : ChannelState) : Channel :=
  { putChannel st with
    desc := { (putChannel st).desc with op := .get }, built := false, dataWait := some 2000 }

/-- A context of a PUT of 4 bytes from station 7, XCH 1, in a state. -/
def putContext (st : ContextState) : Context :=
  { Context.reset with
    state := st, initiator := 7, xch := 1, op := .put, windowId := 1, total := 4, idleTimer := some 2000 }

/-- A context of a GET from station 7, XCH 1, that offers a DATA of two bytes. -/
def getContext (st : ContextState) : Context :=
  { putContext st with
    op := .get, amount := 4, built := true, heldFrame := { payload := [5, 6], tgl := false } }

/-- An OPEN window of 256 bytes at 0, open to every station. -/
def openWindow : Window :=
  { isOpen := true, base := 0, sizeCode := 0, access := .readWrite, mask := 0xFFFFFFFF#32, valid := 16 }

/-- The descriptor of the worked START (10.7), with the peer given. -/
def descriptor (peer : Byte) : DescriptorArg :=
  { peer := peer, opWindow := 0x13, sizeByte := 0x04, remoteOffset := 0x0400, localAddress := 0x1000, total := 0x0258,
    progress := 2, next := 0xFF, deadline := 0 }

/-- A REQUEST's payload: op, window, size code 0, offset 0, a total. -/
def request (op window : Byte) (total : Word) : RequestBody :=
  { op := op, windowId := window, sizeCode := 0, zero := 0, offset := 0, total := total }

/-- An announcement with interval 10. -/
def announcement : Announcement := { interval := 10, openWindows := 2, freeContexts := 4, zero := 0 }

/-- Four bytes of RESULT. -/
def result4 (s : State) : List Byte := [s.port.result[0], s.port.result[1], s.port.result[2], s.port.result[3]]

/-- An own transmission of a frame. -/
def sending (f : Frame) (src : Option Source) : Phase :=
  .transmitting { frame := f, source := src, recoveryRound := false, jam := false }

/-- A frame of this station (3) to station 7. -/
def ownFrame (k : FrameKind) : Frame :=
  { kind := k, dir := false, tgl := false, src := 3, dst := if k.broadcast then 0 else 7, xch := 0, payload := [] }

/-- The station with an ask of channel 0 or a context in flight, its reply gap open. -/
def asked (src : Source) (k : FrameKind) (x : ChannelNo) (s : State) : State :=
  (s.setAsk (some { source := src, kind := k, dst := 7, xch := x })).setPhase .replyGap

/-! ### Ill-formed commands -/

theorem test_ill_formed_image : (Instr.configReadDone (.image [0x45, 0x53, 1, 2])).wellFormed = false := by decide
theorem test_ill_formed_badCommand : (Instr.badCommand 0 0x20).wellFormed = false := by decide
theorem test_ill_formed_badInstruction : (Instr.badInstruction 0x41).wellFormed = false := by decide
theorem test_ill_formed_corruptedFrame :
    (Instr.corruptedFrame (ownFrame .leave).activity).wellFormed = false := by decide +kernel
theorem test_ill_formed_dataReceived :
    (Instr.dataReceived 7 3 0 false (List.replicate 257 0)).wellFormed = false := by decide +kernel
theorem test_ill_formed_channelDataReceived :
    (Instr.channelDataReceived 7 0 false (List.replicate 257 0)).wellFormed = false := by decide +kernel
theorem test_ill_formed_dir1Data :
    (Instr.dir1DataForAnotherStation 7 5 0 false (List.replicate 257 0)).wellFormed = false := by decide +kernel
theorem test_ill_formed_report :
    (Instr.answerReceived 7 3 0 true (.report (List.replicate 257 0))).wellFormed = false := by decide +kernel
theorem test_well_formed_corruptedFrame :
    (Instr.corruptedFrame { (ownFrame .leave).activity with coded := false }).wellFormed = true := by decide +kernel

/-! ### No word spells a command -/

theorem test_no_word (nbits w : Nat) : decodeTableWord nbits w = none := rfl
theorem test_withFetchWord (s : State) (nbits w : Nat) : s.withFetchWord nbits w = s := rfl

/-! ### Frames bit by bit (02_frames.md) -/

theorem test_crc_accept : crc [0x88, 11, 7, 2, 0, 0] = 0x60df81e2#32 := by decide +kernel
theorem test_bytes_leave :
    ({ kind := .leave, dir := false, tgl := false, src := 7, dst := 0, xch := 0, payload := [] } : Frame).bytes =
      [0x30, 7, 0, 0, 0, 0] ++ bytes32 0xe29a41e3#32 := by decide +kernel

/-! ### Worked example of 03_station_life.md 3.2: reading an image -/

/-- The ten bytes of the example. -/
def exampleImage : List Byte := [0x45, 0x53, 3, 2, 5, 4, 1, 1, 0, 0x58]

theorem test_image :
    validateImage exampleImage =
      ({ retryLimit := 3, presenceInterval := 5, idleLimit := 20, autoJoin := true }, .partially) := by decide +kernel

theorem test_loading_ends :
    (fun s : State => (s.station.mode, s.station.listenTimer, s.port.notices.config, s.port.notices.stateChange,
        s.port.busy, readRegister s 0x06))
      (run [.resetRelease 9 3, .configReadDone (.image exampleImage), .memoryClearDone] State.reset) =
    (.listening, some 150, true, true, false, 2) := by decide +kernel

theorem test_clock_timeout :
    (run [.cfgClockTimeout, .memoryClearDone] State.reset).station.confSource = .badImage := by decide +kernel

theorem test_reset_assert :
    (fun s : State => (s.pins.resetHeld, s.station.mode, s.port.busy, s.intLow)) (after .resetAssert online) =
    (true, .loading, true, false) := by decide +kernel

/-! ### Worked example of 05_windows.md 5.8: laying out windows -/

/-- The status and the detail that a command leaves, and its first result byte. -/
def replied (i : Instr) (s : State) : List Byte :=
  [(after i s).port.result[0], (after i s).port.result[1], (after i s).port.result[4]]

/-- The windows of the example after its second command. -/
def twoWindows : State :=
  run [.openWindow 0 0 5 2 0 0x220#32 0, .openWindow 0 1 3 1 0x2000 0xFFFFFFFF#32 1500] online

theorem test_open_window : replied (.openWindow 0 2 4 1 0x3000 0x200#32 4096) twoWindows = [0, 0, 3] := by decide +kernel
theorem test_open_overlap : replied (.openWindow 0 2 2 1 0x2400 0x200#32 0) twoWindows = [6, 1, 0] := by decide +kernel
theorem test_open_range : replied (.openWindow 0 2 4 1 0x3000 0x200#32 5000) twoWindows = [7, 0, 0] := by decide +kernel
theorem test_open_in_use : replied (.openWindow 0 1 0 1 0x4000 0x20#32 0) twoWindows = [5, 0, 0] := by decide +kernel
theorem test_open_bad_base : replied (.openWindow 0 3 4 2 0x1800 0x20#32 0) twoWindows = [2, 6, 0] := by decide +kernel
theorem test_open_bad_size : replied (.openWindow 0 4 9 1 0x4000 0x20#32 0) twoWindows = [2, 3, 0] := by decide +kernel

theorem test_close_window : replied (.closeWindow 0 1) twoWindows = [0, 0, 0] := by decide +kernel
theorem test_set_valid : ((after (.setValid 0 1 2048) twoWindows).window 1).valid = 2048 := by decide +kernel
theorem test_set_valid_range : replied (.setValid 0 1 2049) twoWindows = [7, 0, 0] := by decide +kernel
theorem test_window_info : replied (.windowInfo 0 1) twoWindows = [0, 0, 1] := by decide +kernel

/-- Station 9's LIST sees windows 0 and 1 (R34, R87). -/
theorem test_list_snapshot :
    (((after (.requestReceived 9 3 0 (request 3 0 64)) twoWindows).context 0).heldFrame.payload) =
      [0, 2, 5, 0, 0, 0, 0, 0, 1, 1, 3, 0, 0x05, 0xDC, 0, 0] := by decide +kernel

/-! ### Station commands -/

theorem test_join : (after (.join 1) (working .offline)).station.mode = .listening := by decide +kernel
theorem test_join_refused : replied (.join 1) online = [3, 0, 4] := by decide +kernel
theorem test_withdraw : (after (.withdraw 1) online).station.mode = .withdrawing := by decide +kernel
theorem test_restart : replied (.restart 1) (working .clash) = [0, 0, 1] := by decide +kernel
theorem test_station_info : replied (.stationInfo 1) online = [0, 0, 4] := by decide +kernel
theorem test_peer_info : replied (.peerInfo 1 7) online = [0, 0, 1] := by decide +kernel
theorem test_bad_command : replied (.badCommand 1 0x3F) online = [1, 0, 0] := by decide +kernel

/-! ### Channel commands -/

/-- The worked START of 10_host_port.md 10.7, byte by byte. -/
theorem test_start_transaction :
    (fun s : State => (result4 s, s.port.busy, s.noticeByte, s.intLow, (s.channel 5).state))
      (run ([.noticeMaskWrite true 0x03, .csNRise, .goWrite 0] ++
        (List.zip [0x10, 0x11, 0x12, 0x13, 0x14, 0x15, 0x16, 0x17, 0x18, 0x19, 0x1A, 0x1B, 0x1C, 0x1D, 0x1E, 0x1F]
          [0x20, 0x3A, 0x05, 0x07, 0x13, 0x04, 0x04, 0x00, 0x10, 0x00, 0x02, 0x58, 0x02, 0xFF, 0x00, 0x00]).map
          (fun p => Instr.registerWrite p.1 p.2) ++ [.csNRise]) online) =
    ([0x00, 0x00, 0x3A, 0x20], false, 0x01, true, .request) := by decide +kernel

theorem test_start_row :
    (fun s : State => (result4 s, (s.channel 5).remaining)) (after (.start 0x3A 5 (descriptor 7)) online) =
    ([0x00, 0x00, 0x3A, 0x20], 600) := by decide +kernel
theorem test_start_in_listening :
    result4 (after (.start 0x3A 5 (descriptor 7)) (working .listening)) = [0x03, 0x00, 0x3A, 0x20] := by decide +kernel
theorem test_arm : ((after (.arm 0 5 (descriptor 12)) online).channel 5).state = .armed := by decide +kernel
theorem test_trigger :
    ((run [.arm 0 5 (descriptor 7), .trigger 0 5] online).channel 5).state = .request := by decide +kernel
theorem test_trigger_absent :
    replied (.trigger 0 5) (after (.arm 0 5 (descriptor 12)) online) = [8, 0, 0] := by decide +kernel
theorem test_hold :
    ((after (.hold 0 1) (online.setChannel 1 (putChannel .data))).channel 1).state = .held := by decide +kernel
theorem test_resume :
    ((run [.hold 0 1, .resume 0 1] (online.setChannel 1 (putChannel .data))).channel 1).state = .data := by
  decide +kernel
theorem test_cancel :
    ((after (.cancel 0 1) (online.setChannel 1 (putChannel .data))).channel 1).abortReason = .cancelled := by
  decide +kernel
theorem test_set_deadline :
    ((after (.setDeadline 0 1 500) (online.setChannel 1 (putChannel .data))).channel 1).deadlineTimer = some 500 := by
  decide +kernel
theorem test_clear_deadline :
    ((run [.setDeadline 0 1 500, .clearDeadline 0 1] (online.setChannel 1 (putChannel .data))).channel 1).deadlineTimer =
      none := by decide +kernel
theorem test_channel_info : replied (.channelInfo 0 1 0) (online.setChannel 1 (putChannel .data)) = [0, 0, 3] := by
  decide +kernel
theorem test_release :
    ((after (.release 0 1) (online.setChannel 1 (putChannel .done))).channel 1).state = .idle := by decide +kernel

/-! ### Context commands, arrivals -/

theorem test_context_info : replied (.contextInfo 0 2 0) (online.setContext 2 (putContext .receiving)) = [0, 0, 1] := by
  decide +kernel
theorem test_drop_context :
    (fun s : State => ((s.context 2).state, s.arrivals.records.length))
      (after (.dropContext 0 2) (online.setContext 2 (putContext .receiving))) = (.lingering, 1) := by decide +kernel
theorem test_take_arrival :
    replied (.takeArrival 0) (after (.dropContext 0 2) (online.setContext 2 (putContext .receiving))) = [0, 0, 1] := by
  decide +kernel
theorem test_take_empty : replied (.takeArrival 0) online = [9, 0, 0] := by decide +kernel

/-! ### The host port byte by byte -/

theorem test_notice_write :
    (after (.noticeWrite true 0x01) (after (.takeArrival 0) online)).noticeByte = 0 := by decide +kernel
theorem test_ended_write :
    (after (.channelEndedWrite 0x02) (online.setPort { online.port with ended := 0x06 })).port.ended = 0x04 := by
  decide +kernel
theorem test_progress_write :
    (after (.channelProgressWrite 0x02) (online.setPort { online.port with progress := 0x06 })).port.progress = 0x04 := by
  decide +kernel
theorem test_bad_instruction :
    (run [.badInstruction 0x99, .goWrite 0] online).port.busy = false := by decide +kernel
/-- The instruction byte 0x52 and the address after it open a memory read, with SO driven with 0 (R182). -/
theorem test_opening :
    (openTransaction 0x52 0x1234 online).port.spi = some { kind := .memoryRead, address := 0x1234 } ∧
      (fallCsN online).port.so = some 0 ∧ (openingByte 0x52 (fallCsN online)).port.so = some 0 ∧
      (openingByte 0x12 (openingByte 0x52 (fallCsN online))).port.so = some 0 := by decide +kernel
/-- The addresses of a register write rise: 0x0C and 0x0D in one transaction (R184). -/
theorem test_address_rises :
    (fun s : State => (s.port.ended, s.port.progress, s.port.spi))
      (run [.channelEndedWrite 0x02, .channelProgressWrite 0x02]
        (online.setPort { online.port with ended := 0x06, progress := 0x06 })) =
    (0x04, 0x04, some { kind := .registerWrite, address := 0x0E }) := by decide +kernel
/-- A byte that does not continue the transaction comes after the rise of CS_N that takes the due command (R190). -/
theorem test_due_taken_before_next :
    (fun s : State => (s.port.busy, s.port.due, s.port.result[0], s.port.spi))
      (run [.registerWrite 0x10 0x3F, .csNRise, .goWrite 0, .memoryReadByte (some 5)] online) =
    (false, false, 1, some { kind := .memoryRead, address := 6 }) := by decide +kernel
/-- A command's row takes the command that is due before its own (R190). -/
theorem test_due_taken_before_row :
    (fun s : State => ((s.channel 5).state, s.port.result[0]))
      (run [.registerWrite 0x10 0x02, .csNRise, .goWrite 0, .trigger 0 5]
        (online.setChannel 5 (putChannel .armed))) = (.failed, 3) := by decide +kernel
theorem test_memory_bytes :
    (run [.memoryWriteByte (some 0xFFFF) 0xAA, .memoryWriteByte none 0xBB, .hostClaimServed, .hostClaimServed]
      online).buffer.cells = [(0, 0xBB), (65535, 0xAA)] := by decide +kernel
theorem test_memory_read :
    (run [.memoryWriteByte (some 5) 0xAA, .hostClaimServed, .csNRise, .memoryReadByte (some 5), .hostClaimServed]
      online).port.so = some 0xAA := by decide +kernel

/-! ### Claims (09_buffer_memory_and_arrivals.md 9.2) -/

theorem test_channel_claim :
    ((after .channelReadClaimServed ((online.setChannel 1 (putChannel .data)).setChans
      { (online.setChannel 1 (putChannel .data)).chans with
        claims := [{ ch := 1, address := 4096, length := 3 }] })).channel 1).heldFrame.payload = [0, 0, 0] := by
  decide +kernel
theorem test_context_claim :
    ((after .contextReadClaimServed ((online.setContext 1 (getContext .sending)).setCtxs
      { (online.setContext 1 (getContext .sending)).ctxs with
        claims := [{ slot := 1, address := 0, length := 4 }] })).context 1).finalMark = true := by decide +kernel

/-! ### The line -/

theorem test_activity_start : (after .activityStart online).lau.phase = .receiving := by decide +kernel
theorem test_unseen_activity :
    (after .unseenActivityEnd (online.setLineActive true)).pins.lineActive = false := by decide +kernel
theorem test_settle_gap : (after .settleGapEnd online).lau.phase = .contention 1 false := by decide +kernel
/-- With L 31 station 3 owns slot 4 (1.10). -/
theorem test_own_slot :
    (match (after .slotStart (((online.setChannel 0 (putChannel .request)).setL 31 true).setPhase
        (.contention 3 true))).lau.phase with
      | .transmitting t => some (t.frame.kind, t.recoveryRound)
      | _ => none) = some (.request, true) := by decide +kernel
theorem test_other_slot :
    (after .slotStart ((online.setChannel 0 (putChannel .request)).setPhase (.contention 2 true))).lau.phase =
      .contention 3 true := by decide +kernel
theorem test_silent_round :
    (after .silentRound ((online.setL 7 true).setPhase (.contention 32 true))).lau.last = some 31 := by decide +kernel
theorem test_gap_answer :
    (after .replyGapAnswer ((online.setPhase .replyGap).setAnswer (some (ownFrame .accept)))).lau.phase =
      sending (ownFrame .accept) none := by decide +kernel
theorem test_gap_close :
    ((after .replyGapClose (asked (.channel 0) .request 0 (online.setChannel 0 (putChannel .request)))).channel
      0).attempts = 1 := by decide +kernel
theorem test_transmission_end :
    (after .transmissionEnd (online.setPhase (sending (ownFrame .request) (some (.channel 0))))).lau.phase =
      .replyGap := by decide +kernel
theorem test_join_sent :
    (after .transmissionEnd ((working .joining).setPhase (sending (ownFrame .join) (some .station)))).station.mode =
      .online := by decide +kernel
theorem test_collision :
    (after .collision (online.setPhase (sending (ownFrame .accept) none))).lau.clash = 1 := by decide +kernel
theorem test_jam_end :
    (run [.collision, .jamEnd false] (online.setPhase (sending (ownFrame .accept) none))).lau.phase = .quiet := by
  decide +kernel
theorem test_clash_limit :
    (after .clashCountLimit ((online.setLau { online.lau with clash := 2 }).setPhase
      (sending (ownFrame .accept) none))).station.mode = .clash := by decide +kernel
theorem test_retry_exhausted :
    ((after (.retryExhausted 0) (asked (.channel 0) .request 0
      (online.setChannel 0 { putChannel .request with attempts := 3 }))).channel 0).condition = .retryExhausted := by
  decide +kernel
theorem test_context_retry_exhausted :
    ((after (.contextRetryExhausted 1) (asked (.context 1) .data 1
      (online.setContext 1 { getContext .sending with attempts := 3, askInFlight := true }))).context 1).result =
      some .retryExhausted := by decide +kernel

/-! ### Frames received -/

theorem test_corrupted :
    (after (.corruptedFrame { bits := [true], coded := true }) online).lau.recovery = true := by decide +kernel
/-- Activity whose bits 17 to 24 are no start delimiter fills no buffer (R35). -/
theorem test_no_delimiter :
    bufferedBytes { (ownFrame .leave).activity with bits := List.replicate 64 true } = [] ∧
      bufferedBytes (ownFrame .leave).activity = (ownFrame .leave).bytes := by decide +kernel
theorem test_join_received :
    ((after (.joinFrameReceived 12 announcement) online).peer 12).joinCount = 1 := by decide +kernel
theorem test_presence_received :
    ((after (.presenceReceived 12 announcement) online).peer 12).state = .present := by decide +kernel
theorem test_leave_received : ((after (.leaveReceived 7) online).peer 7).state = .absent := by decide +kernel
theorem test_own_number : (after (.leaveReceived 3) online).station.mode = .clash := by decide +kernel
/-- The first free slot takes a PUT (8.12, step 1), and ACCEPT is handed over. -/
theorem test_request_received :
    (fun s : State => ((s.context 0).state, s.lau.answer.map Frame.kind))
      (after (.requestReceived 7 3 0 (request 1 1 4)) (online.setWindow 1 openWindow)) =
    (.receiving, some .accept) := by decide +kernel
theorem test_request_conflict :
    ((after (.requestReceived 9 3 2 (request 1 1 4))
      ((online.setWindow 1 openWindow).setContext 0 (putContext .receiving))).lau.answer.map Frame.payload) =
      some [2] := by decide +kernel
theorem test_data_received :
    (fun s : State => (s.buffer.cells, (s.context 0).state))
      (after (.dataReceived 7 3 1 false [1, 2, 3, 4])
        ((online.setWindow 1 openWindow).setContext 0 (putContext .receiving))) =
    ([(0, 1), (1, 2), (2, 3), (3, 4)], .drained) := by decide +kernel
theorem test_close_received :
    (fun s : State => ((s.window 1).valid, s.lau.answer.map Frame.payload))
      (after (.closeReceived 7 3 1) ((online.setWindow 1 openWindow).setContext 0
        { putContext .drained with offset := 40, moved := 4 })) = (44, some [0, 0, 0, 4, 0, 44]) := by decide +kernel
theorem test_abort_received :
    ((after (.abortReceived 7 3 1) (online.setContext 0 (putContext .receiving))).context 0).result =
      some .aborted := by decide +kernel
theorem test_channel_data :
    (fun s : State => (s.buffer.cells, (s.channel 1).state, (s.channel 1).moved))
      (after (.channelDataReceived 7 1 false [9]) (online.setChannel 1 (getChannel .data))) =
    ([(4096, 9)], .close, 1) := by decide +kernel
theorem test_dir1_data :
    (after (.dir1DataForAnotherStation 7 5 1 false [9]) (online.setChannel 1 (getChannel .data))).buffer.cells = [] := by
  decide +kernel
theorem test_answer_received :
    ((after (.answerReceived 7 3 0 true .accept) ((asked (.channel 0) .request 0
      (online.setChannel 0 { putChannel .request with askInFlight := true })).setPhase .receiving)).channel 0).state =
      .data := by decide +kernel
theorem test_report_done :
    (fun s : State => ((s.channel 0).state, s.port.ended))
      (after (.answerReceived 7 3 0 true (.report [0, 0, 0x02, 0x58, 0x02, 0x58])) ((asked (.channel 0) .close 0
        (online.setChannel 0 { putChannel .close with askInFlight := true, remaining := 0 })).setPhase .receiving)) =
    (.done, 1) := by decide +kernel

/-! ### Timers -/

theorem test_listen_expiry :
    (after .listenTimerExpiry ((working .listening).setStation
      { (working .listening).station with listenTimer := some 0 })).station.mode = .joining := by decide +kernel
theorem test_peer_expiry :
    ((after (.peerExpiry 7) (online.setPeer 7 { online.peer 7 with expiry := some 0 })).peer 7).state = .absent := by
  decide +kernel
theorem test_presence_expiry :
    (after .presenceTimerExpiry (online.setPeers { online.peers with presenceTimer := some 0 })).station.presenceDue =
      true := by decide +kernel
theorem test_channel_pause :
    ((after (.channelPauseExpiry 1) (online.setChannel 1 { putChannel .request with pauseTimer := some 0 })).channel
      1).pauseTimer = none := by decide +kernel
theorem test_data_wait :
    ((after (.dataWaitExpiry 1) (online.setChannel 1 { getChannel .data with dataWait := some 0 })).channel
      1).timeoutMark = true := by decide +kernel
theorem test_deadline :
    ((after (.deadlineExpiry 1) (online.setChannel 1 { putChannel .request with deadlineTimer := some 0 })).channel
      1).condition = .deadline := by decide +kernel
theorem test_context_pause :
    ((after (.contextPauseExpiry 1) (online.setContext 1 { getContext .sending with pauseTimer := some 0 })).context
      1).pauseTimer = none := by decide +kernel
theorem test_idle_expiry :
    ((after (.idleTimerExpiry 1) (online.setContext 1 { putContext .receiving with idleTimer := some 0 })).context
      1).result = some .idleTimeout := by decide +kernel
theorem test_linger_expiry :
    ((after (.lingerExpiry 1) (online.setContext 1 { putContext .lingering with idleTimer := some 0 })).context
      1).state = .free := by decide +kernel

/-- A deadline set afresh in the moment its old one runs out does not run out (R139). -/
theorem test_deadline_set_afresh :
    (fun ch : Channel => (ch.state, ch.deadlineTimer))
      ((run [.setDeadline 0 1 500, .deadlineExpiry 1]
        (online.setChannel 1 { putChannel .data with deadlineTimer := some 0 })).channel 1) = (.data, some 500) := by
  decide +kernel
/-- An idle timer that a repeat restarts in the moment it runs out does not run out (R152, R160). -/
theorem test_idle_restarted :
    ((run [.dataReceived 7 3 1 true [1], .idleTimerExpiry 0]
      ((online.setWindow 1 openWindow).setContext 0 { putContext .receiving with idleTimer := some 0 })).context 0).state =
      .receiving := by decide +kernel

/-! ### Witnesses: states and operands that meet the hypotheses of each statement -/

/-- LOADING with the port, as right after reset. -/
def loading : State := State.reset

/-- RESET_N low. -/
def heldDown : State := after .resetAssert online

theorem test_meets_StepRunsFrontCommand : ({ online with pending := [.collision] } : State).pending = .collision :: [] := rfl

theorem test_meets_EmptyQueueTicks :
    (heldDown.pending = [] ∧ heldDown.pins.resetHeld = true) ∧ (online.pending = [] ∧ online.pins.resetHeld = false) := by
  decide +kernel

theorem test_meets_LoadingTasks :
    let cleared := after .memoryClearDone loading;
    let read := after .cfgClockTimeout loading;
    (loading.pins.resetHeld = false ∧ loading.station.mode = .loading ∧ loading.station.clearDone = false ∧
      loading.station.readDone = none) ∧
    (cleared.pins.resetHeld = false ∧ cleared.station.mode = .loading ∧ cleared.station.clearDone = true ∧
      cleared.station.readDone = none) ∧
    (read.pins.resetHeld = false ∧ read.station.mode = .loading ∧ read.station.clearDone = false ∧
      read.station.readDone = some (ConfigValues.default, .badImage)) := by decide +kernel

theorem test_meets_ImageGivesValues :
    (loading.pins.resetHeld = false ∧ loading.station.mode = .loading ∧ loading.station.readDone = none ∧
      loading.station.clearDone = false) ∧
    (wholeImage [] 0x68).foldl (· + ·) 0 = 0#8 ∧ (wholeImage [] 0x69).foldl (· + ·) 0 ≠ 0#8 ∧
    (List.replicate 16 ((1, 5) : Byte × Byte)).length ≤ 16 ∧
    (wholeImage (List.replicate 16 (1, 5)) 0xF8).foldl (· + ·) 0 = 0#8 ∧
    ((0x44 : Byte) ≠ 0x45#8 ∧ (0x52 : Byte) ≠ 0x53#8 ∧ 16 < (17 : Byte).toNat) := by decide +kernel

theorem test_meets_PortOutOfService :
    (heldDown.pins.resetHeld = true ∧ commandRecord (.join 1) ≠ none ∧ isPortByte (.goWrite 0) = true) ∧
    (loading.pins.resetHeld = false ∧ loading.station.mode = .loading ∧
      commandRecord (.join 1) = some [(0, 1), (1, 1)] ∧ loading.port.spi = none) ∧
    (∀ k ∈ [SpiKind.memoryWrite, .memoryRead], ∃ s : State, s.pins.resetHeld = false ∧ s.station.mode = .loading ∧
      s.port.spi = some { kind := k, address := 65535 }) :=
  ⟨by decide +kernel, by decide +kernel, fun k _ =>
    ⟨loading.setPort { loading.port with spi := some { kind := k, address := 65535 } }, rfl, rfl, rfl⟩⟩

/-- The port of the working station takes commands. -/
theorem working_takes (m : StationMode) (h : m ≠ .loading) : HostTakes (working m) :=
  { serves := ⟨rfl, h⟩, busy := rfl, due := rfl }
theorem online_takes : HostTakes online := working_takes .online (by decide)

theorem test_meets_CommandRowIsItsTransaction :
    commandRecord (.join 1) = some [(0, 1), (1, 1)] ∧ online.pins.resetHeld = false ∧ loading.pins.resetHeld = false ∧
      (after (.goWrite 0) online).pins.resetHeld = false ∧ (after (.goWrite 0) online).port.due = true := by
  decide +kernel

theorem test_meets_ActivityAndSettleGap :
    (online.lau.phase = .quiet ∧ online.pins.lineActive = false) ∧
    (inPhase (.contention 32 true) online).lau.phase = .contention 32 true ∧
    (inPhase .replyGap online).lau.phase = .replyGap ∧
    ((online.setLineActive true).lau.phase = .quiet ∧ (online.setLineActive true).pins.lineActive = true) := by
  decide +kernel

/-- A station that waits for L. -/
def waiting : State := (working .listening).setLau { (working .listening).lau with last := none }

theorem test_meets_SilentRound :
    ((inPhase (.contention 32 true) online).lau.phase = .contention 32 true ∧ ¬WaitsForL online) ∧
    ((inPhase (.contention 32 true) waiting).lau.phase = .contention 32 true ∧ WaitsForL waiting) := by
  unfold WaitsForL; decide +kernel

/-- Nothing is ready at the working station, whatever its state and phase. -/
theorem nothing_ready (s : State) (hc : s.chans = ChannelEngine.reset) (hx : s.ctxs = ResponderEngine.reset) (i : Fin 12) :
    ¬PlaceReady s i := by
  intro h
  by_cases hi : i.val < 8
  · have := h.1 ⟨i.val, hi⟩ rfl
    simp [ChannelReady, State.channel, hc, ChannelEngine.reset, Channel.reset] at this
  · have := h.2 ⟨i.val - 8, by omega⟩ (by simp; omega)
    simp [ContextReady, State.context, hx, ResponderEngine.reset, Context.reset] at this

theorem test_meets_SlotStart_passes :
    (NextSlot (inPhase (.contention 1 false) waiting) 1 ∧ (inPhase (.contention 1 false) waiting).lau.last = none) ∧
    (NextSlot (inPhase (.contention 31 true) online) 32 ∧
      ∃ l, (inPhase (.contention 31 true) online).lau.last = some l ∧ (l.val + 32) % 32 ≠ 3) ∧
    ((working .joining).station.mode = .joining ∧ (working .joining).station.joinReady = false) ∧
    ((working .withdrawing).station.leaveReady = false ∧ ∀ i, ¬PlaceReady (working .withdrawing) i) ∧
    (online.station.presenceDue = false ∧ ∀ i, ¬PlaceReady online i) :=
  ⟨⟨Or.inl (by decide +kernel), by decide +kernel⟩,
    ⟨Or.inr ⟨31, by decide +kernel, by decide, rfl⟩, 31, by decide +kernel, by decide⟩, by decide +kernel,
    ⟨by decide +kernel, nothing_ready _ rfl rfl⟩, by decide +kernel, nothing_ready _ rfl rfl⟩

theorem test_meets_SlotStart_sends :
    (((31 : Fin 32).val + 4) % 32 = 3 ∧ ((3 : Fin 32).val + 32) % 32 = 3 ∧ online.lau.last = some 31) ∧
    (let s := (working .joining).setStation { (working .joining).station with joinReady := true };
      s.station.mode = .joining ∧ s.station.joinReady = true) ∧
    (let s := after (.withdraw 0) online;
      s.station.mode = .withdrawing ∧ s.station.leaveReady = true) ∧
    (let s := online.setStation { online.station with presenceDue := true };
      s.station.presenceDue = true ∧ ∀ i, ¬PlaceReady s i) :=
  ⟨by decide +kernel, by decide +kernel, by decide +kernel, by decide +kernel, nothing_ready _ rfl rfl⟩

/-- The only source ready at a station is served. -/
theorem serves_only (s : State) (i : Fin 12) (h : PlaceReady s i) (ho : ∀ j, PlaceReady s j → j = i) : Serves s i :=
  ⟨h, fun j hj => by rw [ho j hj]⟩

/-- Channel 0 alone is ready. -/
theorem serves_channel (ch : Channel) (h : ChannelReady ch) (s : State) (hs : s.chans = (online.setChannel 0 ch).chans)
    (hx : s.ctxs = ResponderEngine.reset) : Serves s 0 := by
  have hc : s.channel 0 = ch := by simp only [State.channel, hs]; rfl
  refine serves_only s 0 ⟨fun c hc' => ?_, fun k hk => by simp at hk; omega⟩ ?_
  · have : c = 0 := Fin.ext hc'.symm
    rw [this, hc]; exact h
  · intro j hj
    by_contra hne
    by_cases hi : j.val < 8
    · have := hj.1 ⟨j.val, hi⟩ rfl
      have e : s.channel ⟨j.val, hi⟩ = Channel.reset := by
        simp only [State.channel, hs]
        have h0 : (0 : Nat) ≠ j.val := fun e => hne (Fin.ext e.symm)
        simp [State.setChannel, State.setChans, online, working, State.setPeer, State.setPeers, State.setPhase,
          State.setLau, State.reset, ChannelEngine.reset, h0]
      rw [e] at this
      simp [ChannelReady, Channel.reset] at this
    · have := hj.2 ⟨j.val - 8, by omega⟩ (by simp; omega)
      simp [ContextReady, State.context, hx, ResponderEngine.reset, Context.reset] at this

theorem test_meets_OwnSlot_channel :
    (∀ ch, ch = putChannel .request ∨ ch = { putChannel .request with desc := { (putChannel .request).desc with op := .list } } ∨
        ch = putChannel .data ∨ ch = putChannel .close ∨ ch = putChannel .aborting →
      Serves (inPhase (.contention 4 false) (online.setChannel 0 ch)) 0) ∧
    NextSlot (inPhase (.contention 4 false) online) 4 ∧ online.lau.last = some 31 ∧ (31 + 4) % 32 = 3 ∧
    online.station.mode = .online ∧
    ((working .withdrawing).station.mode = .withdrawing ∧ (working .withdrawing).station.leaveReady = false) := by
  refine ⟨?_, Or.inl (by decide +kernel), by decide +kernel⟩
  rintro ch (rfl | rfl | rfl | rfl | rfl)
  all_goals refine serves_channel _ ?_ _ rfl rfl
  all_goals unfold ChannelReady; decide +kernel

theorem test_meets_OwnSlot_context : ContextReady (getContext .sending) ∧ (8 + (3 : SlotNo).val) = (11 : Fin 12).val := by
  unfold ContextReady; decide +kernel

/-- A reply gap of an ask of channel 0 with the record given. -/
def gapOfChannel (ch : Channel) : State := asked (.channel 0) .request 0 (online.setChannel 0 ch)

/-- A reply gap of an ask of context 1 with the record given. -/
def gapOfContext (x : Context) : State := asked (.context 1) .data 1 (online.setContext 1 x)

theorem test_meets_ReplyGap :
    (let s := (inPhase .replyGap online).setAnswer (some (ownFrame .accept));
      s.lau.phase = .replyGap ∧ s.lau.answer = some (ownFrame .accept) ∧ s.station.mode = .online) ∧
    (inPhase .receiving online).lau.phase ≠ .replyGap ∧
    (inPhase .replyGap online).lau.ask = none ∧
    (∀ ch ∈ [putChannel .request, { putChannel .data with endPending := some .cancelled },
        { putChannel .close with holdPending := true }],
      let s := gapOfChannel { ch with askInFlight := true, attempts := 2 };
      s.lau.phase = .replyGap ∧ s.lau.ask.map Ask.source = some (.channel 0) ∧
        (s.channel 0).attempts + 1 < 1 + s.station.conf.retryLimit ∧ (s.channel 0).state.phase ≠ none) ∧
    (∀ b ∈ [true, false], let s := gapOfContext { getContext .sending with askInFlight := b, attempts := 2 };
      s.lau.phase = .replyGap ∧ s.lau.ask.map Ask.source = some (.context 1) ∧ (s.context 1).askInFlight = b ∧
        (s.context 1).attempts + 1 < 1 + s.station.conf.retryLimit) := by decide +kernel

theorem test_meets_LastAttemptEnds :
    (∀ ch ∈ [putChannel .request, putChannel .data, putChannel .close, { putChannel .close with timeoutMark := true },
        { putChannel .aborting with abortReason := .deadline }],
      let s := gapOfChannel { ch with askInFlight := true, attempts := 3 };
      1 + s.station.conf.retryLimit ≤ (s.channel 0).attempts + 1 ∧
        ((s.channel 0).state.phase ≠ none ∨ (s.channel 0).state = .aborting) ∧
        exhaustedCondition (s.channel 0) ≠ .noError) ∧
    (let s := gapOfContext { getContext .sending with askInFlight := true, attempts := 3 };
      s.lau.phase = .replyGap ∧ (s.context 1).askInFlight = true ∧
        1 + s.station.conf.retryLimit ≤ (s.context 1).attempts + 1) ∧
    (let s := online.setChannel 0 { putChannel .request with attempts := 4 };
      s.lau.phase ≠ .replyGap ∧ (s.channel 0).askInFlight = false ∧
        1 + s.station.conf.retryLimit ≤ (s.channel 0).attempts ∧ exhaustedCondition (s.channel 0) ≠ .noError) ∧
    (let s := online.setContext 1 { getContext .sending with attempts := 4 };
      (s.context 1).askInFlight = false ∧ (s.context 1).state = .sending ∧
        1 + s.station.conf.retryLimit ≤ (s.context 1).attempts) := by decide +kernel

/-- An own transmission in progress. -/
def transmitting (m : StationMode) (k : FrameKind) (src : Option Source) (jam : Bool) : State :=
  (working m).setPhase (.transmitting { frame := ownFrame k, source := src, recoveryRound := false, jam := jam })

theorem test_meets_TransmissionEnds :
    (transmitting .online .accept none false).station.withdrawPending = false ∧
    (∀ k ∈ [FrameKind.request, .data, .close, .abort],
      (ownFrame k).kind.addressedAsk = true ∧ (transmitting .online k (some (.channel 0)) false).station.mode = .online ∧
        (transmitting .withdrawing k (some (.channel 0)) false).station.mode ≠ .online) ∧
    ((ownFrame .presence).kind = .presence ∧
      (transmitting .online .presence (some .station) false).station.mode = .online) ∧
    (ownFrame .join).kind = .join ∧ (ownFrame .leave).kind = .leave := by decide +kernel

theorem test_meets_CollisionAndJam :
    (transmitting .online .accept none false).lau.ask = none ∧
    (((transmitting .online .presence (some .station) false).setAsk
      (some { source := .station, kind := .presence, dst := 0, xch := 0 })).lau.ask.map Ask.source = some .station) ∧
    (putChannel .request).endPending = none ∧ (putChannel .request).holdPending = false ∧
    ({ getContext .sending with askInFlight := true } : Context).askInFlight = true ∧
    (transmitting .online .accept none false).lau.clash < 2 ∧
    (let s := (transmitting .online .accept none false).setLau { (transmitting .online .accept none false).lau with clash := 2 };
      s.lau.clash = 2 ∧ s.station.mode.onLine = true ∧ s.lau.ask = none) ∧
    (transmitting .online .accept none true).station.withdrawPending = false := by decide +kernel

/-- A withdrawal pends while an own frame is sent. -/
def leavingSoon (m : StationMode) (k : FrameKind) (src : Option Source) (jam : Bool) : State :=
  (transmitting m k src jam).setStation { (transmitting m k src jam).station with withdrawPending := true }

theorem test_meets_PendingWithdrawal :
    let clear (s : State) := s.setStation { s.station with withdrawPending := false };
    (leavingSoon .online .accept none false).station.withdrawPending = true ∧
    (after .transmissionEnd (clear (leavingSoon .online .accept none false))).station.mode = .online ∧
    (after (.jamEnd true) (clear (leavingSoon .joining .join (some .station) true))).station.mode = .joining ∧
    (after .transmissionEnd (clear (leavingSoon .withdrawing .leave (some .station) false))).station.mode =
      .withdrawn := by decide +kernel

theorem test_meets_FrameCheckReadsWhatIsSent :
    (ownFrame .leave).valid = true ∧
    ({ kind := .data, dir := true, tgl := true, src := 31, dst := 31, xch := 7, payload := List.replicate 256 0xFF } :
      Frame).valid = true := by decide +kernel

theorem online_hears : Hears online := by unfold Hears; decide +kernel
theorem online_known : ¬WaitsForL online := by unfold WaitsForL; decide +kernel

/-- The working station takes frames of station 7. -/
theorem online_takes_frames : Takes online 7 := ⟨online_hears, by decide +kernel, online_known, by decide +kernel⟩

theorem test_meets_CorruptedFrame :
    Hears online ∧ (Instr.corruptedFrame { bits := [true], coded := true }).wellFormed = true ∧
      (Instr.corruptedFrame { (ownFrame .leave).activity with coded := false }).wellFormed = true ∧
      online.lau.ask = none ∧ ¬WaitsForL online :=
  ⟨online_hears, by decide +kernel, by decide +kernel, by decide +kernel, online_known⟩

theorem test_meets_ReceivedFramesAtLau :
    (receivedFrame 3 (.closeReceived 7 3 0) = some (plainFrame .close 7 3 0) ∧ Hears online ∧
      (plainFrame .close 7 3 0).valid = true ∧ (plainFrame .close 7 3 0).src ≠ online.station.number) ∧
    ¬Hears (working .offline |>.setPhase .silent) :=
  ⟨⟨rfl, online_hears, by decide +kernel, by decide +kernel⟩, by unfold Hears; decide +kernel⟩

theorem test_meets_OwnNumberIsClash :
    receivedFrame online.station.number (.leaveReceived 3) = some (plainFrame .leave 3 0 0) ∧ Hears online ∧
      (plainFrame .leave 3 0 0).valid = true ∧ (plainFrame .leave 3 0 0).src = online.station.number ∧
      online.station.mode.onLine = true :=
  ⟨rfl, online_hears, by decide +kernel, by decide +kernel, by decide +kernel⟩

theorem test_meets_UnansweredAskEnds :
    let s := (gapOfChannel { putChannel .request with askInFlight := true }).setPhase .receiving;
    Hears s ∧ (∃ u, exec .replyGapClose (s.setPhase .replyGap) = .next u) ∧
      (Instr.corruptedFrame { bits := [true], coded := true }).wellFormed = true ∧
      receivedFrame 3 (.leaveReceived 7) = some (plainFrame .leave 7 0 0) ∧
      (plainFrame .leave 7 0 0).kind.answer = false ∧
      receivedFrame 3 (.answerReceived 7 3 1 true .accept) = some (Answer.frame .accept true 7 3 1) ∧
      s.lau.ask = some { source := .channel 0, kind := .request, dst := 7, xch := 0 } ∧
      (Answer.frame .accept true 7 3 1).xch ≠ 0 :=
  ⟨by unfold Hears; decide +kernel, ⟨_, rfl⟩, by decide +kernel, rfl, rfl, rfl, by decide +kernel, by decide⟩

theorem test_meets_FramesToThePeerTable :
    (Takes online 7 ∧ (online.peer 7).state = .present) ∧ (Takes online 12 ∧ (online.peer 12).state = .absent) ∧
    (receivedFrame 3 (.closeReceived 7 5 0) = some (plainFrame .close 7 5 0) ∧
      (plainFrame .close 7 5 0).kind.addressedAsk = true ∧ (plainFrame .close 7 5 0).dst ≠ online.station.number) ∧
    (Takes (working .joining) 7 ∧ (working .joining).station.mode ≠ .online ∧
      (working .joining).station.mode ≠ .withdrawing) ∧
    (receivedFrame 3 (.answerReceived 7 5 0 true .wait) = some (Answer.frame .wait true 7 5 0) ∧
      (Answer.frame .wait true 7 5 0).kind.answer = true) := by
  refine ⟨⟨online_takes_frames, by decide +kernel⟩, ⟨⟨online_hears, ?_, online_known, ?_⟩, by decide +kernel⟩, ⟨rfl, ?_⟩,
    ⟨⟨?_, ?_, ?_, ?_⟩, ?_⟩, rfl, rfl⟩
  all_goals try unfold Hears
  all_goals try unfold WaitsForL
  all_goals decide +kernel

theorem test_meets_PeerEvents :
    ((online.peer 7).state = .present ∧ Takes online 7) ∧
    (let s := online.setPeer 7 { online.peer 7 with expiry := some 0 };
      (s.peer 7).state = .present ∧ (s.peer 7).expiry = some 0) :=
  ⟨⟨by decide +kernel, online_takes_frames⟩, by decide +kernel⟩

/-- An online station with window 1 open. -/
def serving : State := online.setWindow 1 openWindow

theorem serving_takes : Takes serving 7 :=
  ⟨by unfold Hears; decide +kernel, by decide +kernel, by unfold WaitsForL; decide +kernel, by decide +kernel⟩

/-- With every slot FREE the slots keep their law. -/
theorem free_slots (s : State) (hx : s.ctxs = ResponderEngine.reset) : SlotLaw s := by
  have e : ∀ k, s.context k = Context.reset := fun k => by simp [State.context, hx, ResponderEngine.reset]
  exact
    { identity := fun j k hj => by rw [e j] at hj; exact absurd rfl hj
      asking := fun k h => by rw [e k] at h; exact absurd h (by decide)
      once := by rw [hx]; exact List.nodup_nil
      lingering := fun k => by rw [e k, hx]; simp [ResponderEngine.reset, Context.reset] }

/-- Four slots in use, none LINGERING. -/
def full : State := serving.setCtxs { ResponderEngine.reset with slots := Vector.replicate 4 (putContext .receiving) }

/-- A conflict on window 1 with the PUT in slot 0. -/
def busyRange : State := serving.setContext 0 (putContext .receiving)

set_option synthInstance.maxSize 1024 in
set_option synthInstance.maxHeartbeats 200000 in
/-- The first check that fails, for each check, at the bounds of the operands. -/
theorem test_meets_RequestRefused :
    (Takes serving 7 ∧ serving.station.number = 3 ∧ serving.station.mode = .online) ∧
    FirstFails (requestChecks (working .withdrawing) 7 (request 1 1 4)) 8#8 ∧
    (∀ q ∈ [request 0 1 4, request 4 1 4, request 1 8 4, request 1 1 32769, { request 1 1 4 with sizeCode := 5 }],
      FirstFails (requestChecks serving 7 q) 7#8) ∧
    FirstFails (requestChecks full 7 (request 1 1 4)) 1#8 ∧
    FirstFails (requestChecks serving 7 (request 1 0 4)) 3#8 ∧
    FirstFails (requestChecks (online.setWindow 1 { openWindow with mask := 0#32 }) 7 (request 1 1 4)) 4#8 ∧
    FirstFails (requestChecks (online.setWindow 1 { openWindow with access := .readOnly }) 7 (request 1 1 4)) 5#8 ∧
    FirstFails (requestChecks serving 7 (request 1 1 257)) 6#8 ∧
    FirstFails (requestChecks busyRange 9 { request 2 1 1 with offset := 3 }) 2#8 := by
  refine ⟨⟨serving_takes, by decide +kernel⟩, ?_, ?_, ?_, ?_, ?_, ?_, ?_, ?_⟩
  all_goals simp only [requestChecks, FirstFails, RangesApart]
  all_goals decide +kernel

theorem test_meets_RequestAccepted :
    Takes serving 7 ∧ serving.station.mode = .online ∧ SlotLaw serving ∧
      ∀ q ∈ [request 1 1 256, request 2 1 0, request 2 1 4, request 3 0 32768], AllPass (requestChecks serving 7 q) := by
  refine ⟨serving_takes, by decide +kernel, free_slots _ rfl, ?_⟩
  have free : (∃ k, (serving.context k).state = .free) ∨ serving.ctxs.linger ≠ [] :=
    Or.inl ⟨0, by simp [State.context, serving, online, working, State.reset, ResponderEngine.reset, Context.reset,
      State.setWindow, State.setWindows, State.setPeer, State.setPeers, State.setPhase, State.setLau]⟩
  have apart (w : Fin 8) (put : Prop) (o n : Nat) : ∀ k, (serving.context k).state.active = true → (serving.context k).op ≠ .list →
      (serving.context k).windowId = w → ((serving.context k).op = .put ∨ put) →
      RangesApart o n (serving.context k).offset (serving.context k).total := fun k h => by
    have e : serving.context k = Context.reset := by
      simp [State.context, serving, online, working, State.reset, ResponderEngine.reset, State.setWindow,
        State.setWindows, State.setPeer, State.setPeers, State.setPhase, State.setLau]
    rw [e] at h; exact absurd h (by decide)
  intro q hq
  simp only [List.mem_cons, List.not_mem_nil, or_false] at hq
  rcases hq with rfl | rfl | rfl | rfl
  all_goals
    intro c hc
    simp only [requestChecks, List.mem_cons, List.not_mem_nil, or_false] at hc
    rcases hc with rfl | rfl | rfl | rfl | rfl | rfl | rfl | rfl
  all_goals first
    | exact free
    | exact Or.inr (apart _ _ _ _)
    | decide +kernel

/-- One slot in use, not LINGERING and not asking, and the rest FREE keep the law. -/
theorem one_slot (s : State) (x : Context) (hx : s.ctxs = (online.setContext 0 x).ctxs) (hl : x.state ≠ .lingering)
    (ha : x.askInFlight = false) : SlotLaw s := by
  have e0 : s.context 0 = x := by simp only [State.context, hx]; rfl
  have e : ∀ k : SlotNo, k ≠ 0 → s.context k = Context.reset := fun k hk => by
    have h0 : (0 : Nat) ≠ k.val := fun e => hk (Fin.ext e.symm)
    simp [State.context, hx, State.setContext, State.setCtxs, online, working, State.setPeer, State.setPeers,
      State.setPhase, State.setLau, State.reset, ResponderEngine.reset, h0]
  have free : ∀ k : SlotNo, k ≠ 0 → (s.context k).state = .free := fun k hk => by rw [e k hk]; rfl
  have hn : s.ctxs.linger = [] := by rw [hx]; rfl
  exact
    { identity := fun j k hj hk _ _ => by
        have hj0 : j = 0 := by by_contra h; exact hj (free j h)
        have hk0 : k = 0 := by by_contra h; exact hk (free k h)
        rw [hj0, hk0]
      asking := fun k h => by
        by_cases hk : k = 0
        · subst hk; rw [e0, ha] at h; exact absurd h (by decide)
        · rw [e k hk] at h; exact absurd h (by decide)
      once := by rw [hn]; exact List.nodup_nil
      lingering := fun k => by
        rw [hn]
        by_cases hk : k = 0
        · subst hk; rw [e0]; simp [hl]
        · rw [free k hk]; simp }

/-- Memory that lists nothing is in its canonical form. -/
theorem empty_memory (s : State) (h : s.buffer.cells = []) : MemoryLaw s := by unfold MemoryLaw; rw [h]; decide

/-- A station with a PUT of station 7 in slot 0. -/
def receiving (x : Context) : State := serving.setContext 0 x

theorem receiving_takes (x : Context) : Takes (receiving x) 7 :=
  ⟨by unfold Hears; exact ⟨rfl, rfl⟩, rfl, fun h => absurd (show StationMode.online = .listening from h.1) (by decide),
    show (7 : StationNo) ≠ 3 by decide⟩

theorem test_meets_PutDataReceived :
    (∀ x, x = putContext .receiving ∨ x = { putContext .receiving with total := 20 } ∨ x = putContext .drained →
      Takes (receiving x) 7 ∧ (receiving x).station.mode = .online ∧ SlotLaw (receiving x) ∧ MemoryLaw (receiving x) ∧
        HoldsExchange (receiving x) 0 7 1 ∧ x.op = .put) ∧
    ([1, 2, 3, 4] : List Byte).length = min (16 * 2 ^ (putContext .receiving).sizeCode) (4 - 0) ∧
    (List.replicate 16 (0 : Byte)).length = min (16 * 2 ^ 0) (20 - 0) ∧
    claimBefore .responders (receiving (putContext .receiving)) = none ∧
    claimBefore .responders ((receiving (putContext .receiving)).setPort
      { (receiving (putContext .receiving)).port with claims := [.read 0] }) = some .hostClaimServed := by
  refine ⟨?_, by decide +kernel⟩
  intro x h
  have hh : x.state ≠ .lingering ∧ x.askInFlight = false ∧ x.state ≠ .free ∧ x.initiator = 7 ∧ x.xch = 1 ∧ x.op = .put := by
    rcases h with rfl | rfl | rfl <;> decide +kernel
  exact ⟨receiving_takes x, by rfl, one_slot _ x rfl hh.1 hh.2.1, empty_memory _ rfl, ⟨hh.2.2.1, hh.2.2.2.1, hh.2.2.2.2.1⟩, hh.2.2.2.2.2⟩

theorem test_meets_ContextFrames :
    (∀ i ∈ [Instr.dataReceived 7 3 1 true [9], .dataReceived 7 3 1 false [1, 2, 3], .closeReceived 7 3 1,
        .abortReceived 7 3 1],
      ∃ f, receivedFrame 3 i = some f ∧ f.valid = true ∧ f.src = 7 ∧ f.dst = 3 ∧ f.dir = false) ∧
    (working .withdrawing).station.mode = .withdrawing ∧
    (Takes serving 7 ∧ SlotLaw serving ∧ ∀ k, ¬HoldsExchange serving k 7 1) ∧
    (∀ x ∈ [putContext .receiving, putContext .drained, getContext .sending],
      Takes (receiving x) 7 ∧ SlotLaw (receiving x) ∧ HoldsExchange (receiving x) 0 7 1) ∧
    HoldsExchange (receiving { putContext .lingering with stored := some { result := .ok, count := 4, valid := 4 } }) 0 7 1 := by
  refine ⟨?_, by decide +kernel, ⟨serving_takes, free_slots _ rfl, ?_⟩, ?_, ⟨by decide +kernel, rfl, rfl⟩⟩
  · intro i hi
    simp only [List.mem_cons, List.not_mem_nil, or_false] at hi
    rcases hi with rfl | rfl | rfl | rfl <;> exact ⟨_, rfl, by decide +kernel⟩
  · intro k h
    exact h.1 (by simp [State.context, serving, online, working, State.reset, ResponderEngine.reset, Context.reset,
      State.setWindow, State.setWindows, State.setPeer, State.setPeers, State.setPhase, State.setLau])
  · intro x hx
    have hh : x.state ≠ .lingering ∧ x.askInFlight = false ∧ x.state ≠ .free ∧ x.initiator = 7 ∧ x.xch = 1 := by
      simp only [List.mem_cons, List.not_mem_nil, or_false] at hx
      rcases hx with rfl | rfl | rfl <;> decide +kernel
    exact ⟨receiving_takes x, one_slot _ x rfl hh.1 hh.2.1, hh.2.2⟩

/-- The station with channel 1 as given. -/
def getting (ch : Channel) : State := online.setChannel 1 ch

theorem getting_takes (ch : Channel) :
    Takes (getting ch) 7 ∧ MemoryLaw (getting ch) ∧ (getting ch).channel 1 = ch ∧ (getting ch).station.mode = .online :=
  ⟨⟨by unfold Hears; exact ⟨rfl, rfl⟩, rfl, fun h => absurd (show StationMode.online = .listening from h.1) (by decide),
    show (7 : StationNo) ≠ 3 by decide⟩, empty_memory _ rfl, rfl, rfl⟩

theorem test_meets_ChannelData :
    (∀ ch, Takes (getting ch) 7 ∧ MemoryLaw (getting ch) ∧ (getting ch).channel 1 = ch ∧
      (getting ch).station.mode = .online) ∧
    ((working .withdrawing).station.mode = .withdrawing ∧ (7 : StationNo) ≠ (Channel.reset).desc.peer ∧
      (putChannel .data).desc.op = .put ∧ (getChannel .close).state = .close) ∧
    ((getChannel .data).desc.peer = 7 ∧ (getChannel .data).desc.op ≠ .put ∧ (getChannel .data).state = .data ∧
      (getChannel .data).toggle = false ∧ true ≠ (getChannel .data).toggle) ∧
    (∀ p ∈ [HeldPhase.request, .data, .close], ({ getChannel .held with heldPhase := p }).heldPhase = p) ∧
    (16 * 2 ^ (getChannel .data).desc.sizeCode < (List.replicate 257 (0 : Byte)).length ∧
      ({ getChannel .data with remaining := 1 }).remaining < ([1, 2] : List Byte).length) ∧
    ((List.replicate 256 (0 : Byte)).length ≤ 16 * 2 ^ (getChannel .data).desc.sizeCode ∧
      ({ getChannel .data with remaining := 256 }).remaining = (List.replicate 256 (0 : Byte)).length) ∧
    claimBefore .channels (getting (getChannel .data)) = none ∧
    claimBefore .channels ((getting (getChannel .data)).setPort
      { (getting (getChannel .data)).port with claims := [.read 0] }) = some .hostClaimServed :=
  ⟨getting_takes, by decide +kernel⟩

/-- An answer of station 7 to an ask of a source, received. -/
theorem answers (s : State) (src : Source) (k : FrameKind) (x : ChannelNo) (ans : Answer) (hm : s.station.mode = .online)
    (hn : s.station.number = 3) (hk : k.addressedAsk = true)
    (hv : (Answer.frame ans true 7 3 x).valid = true) :
    AnswersAsk ((asked src k x s).setPhase .receiving) src (.answerReceived 7 3 x true ans) (ans.frame true 7 3 x) ans :=
  { row := rfl
    frame := rfl
    valid := hv
    hears := by unfold Hears State.unseenActivity; exact ⟨rfl, rfl⟩
    known := fun h => by
      have : s.station.mode = .listening := h.1
      rw [hm] at this; exact absurd this (by decide)
    other := by show (7 : StationNo) ≠ s.station.number; rw [hn]; decide
    own := by show (3 : StationNo) = s.station.number; rw [hn]
    asked := ⟨_, rfl, rfl, hk, rfl, rfl⟩ }

/-- A channel with its ask in flight, as the outcome of the ask finds it. -/
theorem outcome_taken (ch : Channel) (k : FrameKind) (he : ch.endPending = none) (hh : ch.holdPending = false) :
    TakesOutcome ((asked (.channel 0) k 0 (online.setChannel 0 ch)).setPhase .receiving) 0
      { ch with askInFlight := false } := ⟨rfl, he, hh⟩

/-- The answers of every kind, with boundary reasons and payloads. -/
def sampleAnswers : List Answer :=
  [.accept, .refuse 1, .refuse 2, .refuse 3, .refuse 9, .ack false, .ack true, .wait, .report [], .report [0, 0, 0, 0, 0, 0],
    .report [5, 0, 0, 0, 0, 0], .report [0, 0, 0x02, 0x58, 0, 0]]

theorem sample_valid : ∀ ans ∈ sampleAnswers, ∀ x : ChannelNo, (Answer.frame ans true 7 3 x).valid = true := by
  decide +kernel

/-- Every sample answer matches an ask of channel 0, whatever the channel's record. -/
theorem sample_answers (ch : Channel) (k : FrameKind) (hk : k.addressedAsk = true) : ∀ ans ∈ sampleAnswers,
    AnswersAsk ((asked (.channel 0) k 0 (online.setChannel 0 ch)).setPhase .receiving) (.channel 0)
      (.answerReceived 7 3 0 true ans) (ans.frame true 7 3 0) ans := fun ans h =>
  answers (online.setChannel 0 ch) (.channel 0) k 0 ans rfl rfl hk (sample_valid ans h 0)

theorem test_meets_AnswerToRequest :
    (∀ ch ∈ [putChannel .request, getChannel .request, { putChannel .request with attempts := 3 },
        { putChannel .request with desc := Descriptor.empty }], ∀ ans ∈ sampleAnswers,
      ∃ s f, AnswersAsk s (.channel 0) (.answerReceived 7 3 0 true ans) f ans ∧
        TakesOutcome s 0 { ch with askInFlight := false } ∧ ch.state = .request) ∧
    ((putChannel .request).desc.total ≠ 0 ∧ Descriptor.empty.total = 0 ∧ (getChannel .request).desc.op ≠ .put) := by
  refine ⟨fun ch hc ans ha => ⟨_, _, sample_answers ch .request rfl ans ha, outcome_taken ch .request ?_ ?_, ?_⟩,
    by decide +kernel⟩
  all_goals
    simp only [List.mem_cons, List.not_mem_nil, or_false] at hc
    rcases hc with rfl | rfl | rfl | rfl <;> decide +kernel

theorem test_meets_AnswerToPutData :
    ∀ ch ∈ [putChannel .data, { putChannel .data with remaining := 2 }], ∀ ans ∈ sampleAnswers,
      ∃ s f, AnswersAsk s (.channel 0) (.answerReceived 7 3 0 true ans) f ans ∧
        TakesOutcome s 0 { ch with askInFlight := false } ∧ ch.state = .data ∧ ch.desc.op = .put := by
  refine fun ch hc ans ha => ⟨_, _, sample_answers ch .data rfl ans ha, outcome_taken ch .data ?_ ?_, ?_⟩
  all_goals
    simp only [List.mem_cons, List.not_mem_nil, or_false] at hc
    rcases hc with rfl | rfl <;> decide +kernel

theorem test_meets_AnswerToCloseAndAbort :
    (∀ ch ∈ [{ putChannel .close with remaining := 0 }, putChannel .close, { putChannel .close with timeoutMark := true },
        getChannel .close], ∀ ans ∈ sampleAnswers,
      ∃ s f, AnswersAsk s (.channel 0) (.answerReceived 7 3 0 true ans) f ans ∧
        TakesOutcome s 0 { ch with askInFlight := false } ∧ ch.state = .close) ∧
    (∀ ans ∈ sampleAnswers, ∃ s f, AnswersAsk s (.channel 0) (.answerReceived 7 3 0 true ans) f ans ∧
        TakesOutcome s 0 { putChannel .aborting with abortReason := .overrun, askInFlight := false }) ∧
    (word 0x02 0x58).toNat = (putChannel .close).desc.total ∧ (word 0 0).toNat = (getChannel .close).moved := by
  refine ⟨fun ch hc ans ha => ⟨_, _, sample_answers ch .close rfl ans ha, outcome_taken ch .close ?_ ?_, ?_⟩,
    fun ans ha => ⟨_, _, sample_answers { putChannel .aborting with abortReason := .overrun } .abort rfl ans ha,
      outcome_taken _ .abort rfl rfl⟩, by decide +kernel⟩
  all_goals
    simp only [List.mem_cons, List.not_mem_nil, or_false] at hc
    rcases hc with rfl | rfl | rfl | rfl <;> decide +kernel

theorem test_meets_AnswerToContext :
    ∀ x ∈ [{ getContext .sending with askInFlight := true }, { getContext .sending with askInFlight := true, finalMark := true },
        { getContext .sending with askInFlight := true, attempts := 3 }, getContext .lingering], ∀ ans ∈ sampleAnswers,
      ∃ s f, AnswersAsk s (.context 1) (.answerReceived 7 3 1 true ans) f ans ∧ s.context 1 = x := fun x _ ans ha =>
  ⟨_, _, answers (online.setContext 1 x) (.context 1) .data 1 ans rfl rfl rfl (sample_valid ans ha 1), rfl⟩

/-- An ask of channel 0 sent in a recovery round, with the record and the clash count given. -/
def recoveryAsk (ch : Channel) (n : Nat) : State :=
  ((gapOfChannel ch).setPhase (.transmitting
    { frame := ownFrame .data, source := some (.channel 0), recoveryRound := true, jam := false })).setLau
    { ((gapOfChannel ch).setPhase (.transmitting
        { frame := ownFrame .data, source := some (.channel 0), recoveryRound := true, jam := false })).lau with clash := n }

theorem test_meets_PendingAfterOutcome :
    (∀ ch ∈ [{ putChannel .data with endPending := some .cancelled, askInFlight := true },
        { putChannel .data with holdPending := true, askInFlight := true },
        { putChannel .aborting with abortReason := .cancelled, askInFlight := true }],
      (gapOfChannel ch).lau.phase = .replyGap ∧ (gapOfChannel ch).lau.ask.map Ask.source = some (.channel 0) ∧
        (ch.state.phase ≠ none ∨ ch.state = .aborting)) ∧
    (let s := gapOfChannel { putChannel .data with askInFlight := true, attempts := 0 };
      (((after .replyGapClose s).channel 0).state.phase = some .data)) ∧
    (let s := gapOfChannel { putChannel .data with askInFlight := true, attempts := 3 };
      (((after .replyGapClose s).channel 0).state = .failed)) ∧
    (∀ n ∈ [0, 1, 2], let s := recoveryAsk { putChannel .data with holdPending := true, askInFlight := true } n;
      s.lau.clash = n ∧ s.station.mode.onLine = true ∧ s.lau.ask.map Ask.source = some (.channel 0) ∧
        (∃ x, s.lau.phase = .transmitting x ∧ x.jam = false ∧ x.recoveryRound = true) ∧
        ∃ v, exec .collision (s.setLau { s.lau with clash := 0 }) = .next v) := by
  refine ⟨by decide +kernel, by decide +kernel, by decide +kernel, fun n _ =>
    ⟨rfl, rfl, rfl, ⟨_, rfl, rfl, rfl⟩, _, rfl⟩⟩

theorem test_meets_TimersRunOut :
    (let s := waiting.setStation { waiting.station with listenTimer := some 0 };
      s.station.mode = .listening ∧ s.station.listenTimer = some 0 ∧ s.lau.last = none ∧
        (working .listening).lau.last ≠ none) ∧
    (let s := inPhase (.contention 32 true) waiting;
      let v := s.setStation { s.station with listenTimer := some 1 };
      WaitsForL s ∧ Hears s ∧ s.lau.phase = .contention 32 true ∧ (after .silentRound v).station.mode = .listening ∧
        (after (.leaveReceived 7) v).station.mode = .listening) ∧
    ((online.setPeers { online.peers with presenceTimer := some 0 }).peers.presenceTimer = some 0) ∧
    ({ putChannel .request with pauseTimer := some 0 }).pauseTimer = some 0 ∧
    ({ getChannel .data with dataWait := some 0 }).state = .data ∧
    ({ getContext .sending with pauseTimer := some 0 }).pauseTimer = some 0 ∧
    (∀ st ∈ [ContextState.receiving, .sending, .drained, .lingering], ({ putContext st with idleTimer := some 0 }).state = st) ∧
    (isTimerRow (.deadlineExpiry 1) = true ∧
      timerOf (online.setChannel 1 { putChannel .data with deadlineTimer := some 1 }) (.deadlineExpiry 1) ≠ some 0 ∧
      timerOf online (.deadlineExpiry 1) ≠ some 0) := by
  unfold WaitsForL Hears; decide +kernel

theorem test_meets_CancelAndDeadline :
    HostTakes online ∧ (7 : Byte).toNat = (7 : ChannelNo).val ∧
    (∀ st ∈ [ChannelState.request, .data, .close, .held], (putChannel st).state.running = true ∧
      ({ putChannel st with deadlineTimer := some 0 }).deadlineTimer = some 0) ∧ (putChannel .armed).state = .armed :=
  ⟨online_takes, by decide +kernel⟩

theorem test_meets_MemoryBytes :
    PortServes online ∧ online.port.spi = none ∧ (some (0xFFFF : Word)).map BitVec.toNat = some 65535 ∧
      (after (.memoryWriteByte (some 5) 0) online).port.spi = some { kind := .memoryWrite, address := 6 } ∧
      (after (.memoryReadByte (some 0xFFFF)) online).port.spi = some { kind := .memoryRead, address := 0 } :=
  ⟨online_takes.serves, by decide +kernel⟩

theorem test_meets_ClaimsServed :
    (let s := online.setPort { online.port with claims := [.read 0, .write 65535 1] };
      MemoryLaw s ∧ InTurn s .host ∧ ¬InTurn s .channels ∧ ¬InTurn s .responders) ∧
    InTurn (online.setChans { online.chans with claims := [{ ch := 0, address := 0, length := 256 }] }) .channels ∧
    InTurn (online.setCtxs { online.ctxs with claims := [{ slot := 0, address := 0, length := 256 }] }) .responders ∧
    MemoryLaw online ∧ ¬InTurn online .host := by unfold InTurn MemoryLaw; decide +kernel

theorem test_meets_RegisterWrites :
    online.pins.resetHeld = false ∧ (∀ a, ReceivesAt online a) ∧ online.station.mode ≠ .loading ∧
      online.port.busy = false ∧ State.reset.station.mode = .loading ∧
      (∀ i : Fin 16, ReceivesAt (online.atRegister (0x0F + i.val)) (0x10 + i.val)) ∧
      ReceivesAt (after (.channelEndedWrite 0) online) 0x0D ∧
      ((0x08 : Word).toNat < 0x10 ∧ 0x1F < (0x20 : Word).toNat) :=
  ⟨rfl, fun _ => Or.inl rfl, by decide +kernel, rfl, rfl, by unfold ReceivesAt; decide +kernel, Or.inr rfl,
    by decide +kernel⟩

theorem test_meets_CommandTaken :
    (online.pins.resetHeld = false ∧ online.port.due = false ∧ online.station.mode ≠ .loading) ∧
    (let s := run [.registerWrite 0x10 0x01, .registerWrite 0x11 0x22, .goWrite 0] online;
      s.pins.resetHeld = false ∧ s.port.due = true ∧ s.station.mode ≠ .loading ∧
        commandRecord (.join 0x22) = some [(0, 0x01), (1, 0x22)] ∧ s.port.command[0] = 0x01 ∧
        s.port.command[1] = 0x22 ∧ s.port.spi = some { kind := .registerWrite, address := 0x10 }) ∧
    (commandCodes.contains (0x00 : Byte).toNat = false ∧ commandCodes.contains (0x39 : Byte).toNat = false) ∧
    (spiCodes.contains (0x40 : Byte).toNat = false) ∧
    (after (.badInstruction 0x40) online).port.spi = some { kind := .ignored, address := 0 } := by decide +kernel

/-- Rows that do not continue a register write that has reached address 0x10. -/
theorem test_meets_CommandTaken_reopened :
    ∀ i ∈ [Instr.memoryReadByte (some 5), .memoryWriteByte (some 5) 0, .badInstruction 0x40, .goWrite 0,
        .registerWrite 0x11 0],
      ∃ x u, (after (.goWrite 0) online).port.spi = some x ∧ x.kind ≠ .ignored ∧
        OpensTransaction (after (.goWrite 0) online) i ∧ exec .csNRise (after (.goWrite 0) online) = .next u := by
  intro i hi
  refine ⟨{ kind := .registerWrite, address := 0x10 }, _, by decide +kernel, by decide, ?_, rfl⟩
  simp only [List.mem_cons, List.not_mem_nil, or_false] at hi
  rcases hi with rfl | rfl | rfl | rfl | rfl
  · exact Option.some_ne_none _
  · exact Option.some_ne_none _
  · exact trivial
  · exact ⟨_, rfl, by decide +kernel⟩
  · exact ⟨_, rfl, by decide +kernel⟩

theorem test_meets_JoinAndRestart :
    HostTakes (working .offline) ∧ (working .offline).station.mode = .offline ∧ HostTakes online ∧
      online.station.mode ≠ .offline := ⟨working_takes _ (by decide), by decide +kernel, online_takes, by decide +kernel⟩

theorem test_meets_Withdraw :
    (∀ m ∈ [StationMode.offline, .listening, .joining, .online, .withdrawing, .withdrawn, .clash], HostTakes (working m)) ∧
      (working .joining).lau.phase.sending = false ∧ (transmitting .online .accept none false).lau.phase.sending = true :=
  ⟨fun m hm => working_takes m fun e => by subst e; exact absurd hm (by decide), by decide +kernel⟩

theorem test_meets_OpenWindow :
    HostTakes online ∧
    (∀ p ∈ [((8, 0, 1, 0, 0), Reply.refused .badArg 2), ((0, 8, 1, 0, 0), .refused .badArg 3),
        ((0, 0, 0, 0, 0), .refused .badArg 4), ((0, 0, 3, 0, 0), .refused .badArg 4),
        ((0, 0, 1, 0x80, 0), .refused .badArg 6), ((0, 0, 1, 0, 257), .refused .range 0)],
      ∃ id size access base valid, p.1 = (id, size, access, base, valid) ∧
        FirstFails (openChecks online id size access base valid) p.2) ∧
    FirstFails (openChecks twoWindows 1 0 1 0x4000 0) (.refused .inUse 0) ∧
    AllPass (openChecks online 7 7 2 0x8000 32768) ∧
    Meets 0x2400 1024 (twoWindows.window 1) ∧ ¬Meets 0x2400 1024 (twoWindows.window 0) := by
  refine ⟨online_takes, ?_, ?_, ?_, ?_⟩
  · intro p hp
    simp only [List.mem_cons, List.not_mem_nil, or_false] at hp
    rcases hp with rfl | rfl | rfl | rfl | rfl | rfl
    all_goals refine ⟨_, _, _, _, _, rfl, ?_⟩
    all_goals simp only [openChecks, FirstFails]; decide +kernel
  · simp only [openChecks, FirstFails]; decide +kernel
  · simp only [openChecks, AllPass, List.mem_cons, List.not_mem_nil, or_false, forall_eq_or_imp, forall_eq]; decide +kernel
  · unfold Meets; decide +kernel

theorem serving_host : HostTakes serving := { serves := ⟨rfl, by decide +kernel⟩, busy := rfl, due := rfl }

theorem test_meets_CloseWindowAndDropContext :
    HostTakes serving ∧ (serving.window 1).isOpen = true ∧ (serving.window 0).isOpen = false ∧ 7 < (8 : Byte).toNat ∧
      (7 : Byte).toNat = (7 : Fin 8).val ∧ 3 < (4 : Byte).toNat ∧ (3 : Byte).toNat = (3 : SlotNo).val ∧
      (∀ st ∈ [ContextState.free, .receiving, .sending, .drained, .lingering],
        ((serving.setContext 3 (putContext st)).context 3).state = st) :=
  ⟨serving_host, by decide +kernel⟩

theorem test_meets_SetValid :
    HostTakes serving ∧
    FirstFails [((8 : Byte).toNat ≤ 7, Reply.refused .badArg 2), ((serving.window 0).isOpen = true, .refused .notOpen 0),
      ((0 : Word).toNat ≤ 256 * 2 ^ (serving.window 0).sizeCode, .refused .range 0)] (.refused .badArg 2) ∧
    FirstFails [((0 : Byte).toNat ≤ 7, Reply.refused .badArg 2), ((serving.window 0).isOpen = true, .refused .notOpen 0),
      ((0 : Word).toNat ≤ 256 * 2 ^ (serving.window 0).sizeCode, .refused .range 0)] (.refused .notOpen 0) ∧
    FirstFails [((1 : Byte).toNat ≤ 7, Reply.refused .badArg 2), ((serving.window 1).isOpen = true, .refused .notOpen 0),
      ((257 : Word).toNat ≤ 256 * 2 ^ (serving.window 1).sizeCode, .refused .range 0)] (.refused .range 0) ∧
    ((1 : Byte).toNat ≤ 7 ∧ (serving.window 1).isOpen = true ∧
      (256 : Word).toNat ≤ 256 * 2 ^ (serving.window 1).sizeCode) := by
  refine ⟨serving_host, ?_⟩
  simp only [FirstFails]; decide +kernel

theorem test_meets_InfoCommands :
    HostTakes online ∧ 31 < (32 : Byte).toNat ∧ (31 : Byte).toNat = (31 : StationNo).val ∧ 7 < (8 : Byte).toNat ∧
      (7 : Byte).toNat = (7 : ChannelNo).val ∧ 3 < (4 : Byte).toNat ∧ (3 : Byte).toNat = (3 : SlotNo).val ∧
      2 < (3 : Byte).toNat := ⟨online_takes, by decide⟩

theorem test_meets_ChannelNumberChecked :
    HostTakes online ∧
    (∀ i ∈ [Instr.start 0 8 (descriptor 7), .arm 0 8 (descriptor 7), .trigger 0 8, .hold 0 8, .resume 0 8, .cancel 0 8,
        .setDeadline 0 8 1, .clearDeadline 0 8, .channelInfo 0 8 0, .release 0 8],
      ∃ code params, commandRecord i = some ([(0, code), (1, 0)] ++ (2, 8) :: params) ∧ 0x20 ≤ code.toNat ∧
        code.toNat ≤ 0x29 ∧ i.wellFormed = true) ∧ 7 < (8 : Byte).toNat := by
  refine ⟨online_takes, ?_, by decide⟩
  intro i hi
  simp only [List.mem_cons, List.not_mem_nil, or_false] at hi
  rcases hi with rfl | rfl | rfl | rfl | rfl | rfl | rfl | rfl | rfl | rfl
  all_goals exact ⟨_, _, rfl, by decide, by decide, rfl⟩

/-- The descriptors that fail one check of START and ARM each, with the reply, at the bounds of their ranges. -/
theorem test_meets_descriptorChecks :
    (∀ p ∈ [({ descriptor 32 with total := 0 }, Reply.refused .badArg 3), (descriptor 3, .refused .badArg 3),
        ({ descriptor 7 with opWindow := 0x03 }, .refused .badArg 4), ({ descriptor 7 with opWindow := 0x18 }, .refused .badArg 4),
        ({ descriptor 7 with sizeByte := 5 }, .refused .badArg 5),
        ({ descriptor 7 with remoteOffset := 32768 }, .refused .badArg 6),
        ({ descriptor 7 with total := 32769 }, .refused .badArg 10),
        ({ descriptor 7 with progress := 17 }, .refused .badArg 12), ({ descriptor 7 with next := 8 }, .refused .badArg 13),
        ({ descriptor 7 with next := 5 }, .refused .badArg 13),
        ({ descriptor 7 with localAddress := 0xFFFF, total := 2 }, .refused .range 0)],
      FirstFails (descriptorChecks 3 5 p.1) p.2) ∧
    AllPass (descriptorChecks 3 5 (descriptor 7)) ∧
    AllPass (descriptorChecks 3 5 { descriptor 31 with opWindow := 0x38, localAddress := 0xFFFF, total := 1, next := 7 }) := by
  refine ⟨?_, ?_⟩
  · intro p hp
    simp only [List.mem_cons, List.not_mem_nil, or_false] at hp
    rcases hp with rfl | rfl | rfl | rfl | rfl | rfl | rfl | rfl | rfl | rfl | rfl
    all_goals simp only [descriptorChecks, FirstFails]; decide +kernel
  · constructor
    all_goals
      simp only [descriptorChecks, AllPass, List.mem_cons, List.not_mem_nil, or_false, forall_eq_or_imp, forall_eq]
      decide +kernel

theorem test_meets_Start :
    HostTakes online ∧ (5 : Byte).toNat = (5 : ChannelNo).val ∧ online.station.mode = .online ∧
      (online.channel 5).state = .idle ∧ (online.peer (Fin.ofNat 32 (7 : Byte).toNat)).state = .present ∧
      (working .listening).station.mode ≠ .online ∧ (putChannel .data).state = .data ∧
      (online.peer (Fin.ofNat 32 (12 : Byte).toNat)).state ≠ .present := ⟨online_takes, by decide +kernel⟩

theorem test_meets_ArmAndTrigger :
    HostTakes online ∧ (working .clash).station.mode = .clash ∧
      (∀ st ∈ [ChannelState.idle, .armed, .done, .failed], (putChannel st).state = st) ∧
      FirstFails [((working .listening).station.mode = .online, Reply.refused .state 0),
        ((putChannel .armed).state = .armed, .refused .channelState 0)] (.refused .state 0) ∧
      FirstFails [(online.station.mode = .online, Reply.refused .state 0),
        ((putChannel .idle).state = .armed, .refused .channelState 0)] (.refused .channelState 0) ∧
      (online.peer (putChannel .armed).desc.peer).state = .present ∧ (online.peer 12).state ≠ .present := by
  refine ⟨online_takes, ?_⟩
  simp only [FirstFails]; decide +kernel

theorem test_meets_HoldResumeSetDeadline :
    HostTakes online ∧ (7 : Byte).toNat = (7 : ChannelNo).val ∧
    (∀ p ∈ [(ChannelState.request, HeldPhase.request), (.data, .data), (.close, .close)],
      (putChannel p.1).state.phase = some p.2 ∧ (putChannel p.1).askInFlight = false ∧
        ({ putChannel p.1 with askInFlight := true }).askInFlight = true) ∧
    (putChannel .held).state = .held ∧ ((putChannel .idle).state.phase = none ∧ (putChannel .idle).state ≠ .held) ∧
    ((putChannel .held).built = true ∧ ({ putChannel .held with built := false }).built = false ∧
      (getChannel .held).desc.op ≠ .put) ∧
    ((1 : Word) ≠ 0#16 ∧ (putChannel .armed).state = .armed ∧ (putChannel .close).state.running = true ∧
      (putChannel .aborting).state.running = false) := ⟨online_takes, by decide +kernel⟩

theorem test_meets_ReleaseAndClearDeadline :
    HostTakes online ∧ (putChannel .done).state = .done ∧ (putChannel .failed).state = .failed ∧
      (putChannel .held).state.running = true ∧ ({ putChannel .held with deadlineTimer := some 1 }).deadlineTimer ≠ none ∧
      (putChannel .armed).state = .armed ∧
      (¬((putChannel .idle).state.running = true ∧ (putChannel .idle).deadlineTimer ≠ none)) :=
  ⟨online_takes, by decide +kernel⟩

theorem test_meets_TakeArrival :
    HostTakes online ∧ online.arrivals.records = [] ∧
      ∃ r rest, (after (.dropContext 0 2) (online.setContext 2 (putContext .receiving))).arrivals.records = r :: rest ∧
        rest = [] := ⟨online_takes, by decide +kernel, _, _, rfl, rfl⟩

/-- The working station keeps every law, and steps. -/
theorem test_meets_laws :
    MemoryLaw online ∧ ArrivalLaw online ∧ SelfLaw online ∧ ConditionLaw online ∧ WindowLaw serving ∧ SlotLaw online ∧
      (∃ t, step { online with pending := [.slotStart] } = .next t) ∧
      ∃ t, step { serving with pending := [.closeWindow 0 1] } = .next t := by
  refine ⟨?_, ?_, ?_, ?_, ?_, free_slots _ rfl, ⟨_, rfl⟩, ⟨_, rfl⟩⟩
  · unfold MemoryLaw; decide +kernel
  · unfold ArrivalLaw; decide +kernel
  · unfold SelfLaw; decide +kernel
  · unfold ConditionLaw Channel.conditionLaw; decide +kernel
  · unfold WindowLaw Window.apart; decide +kernel

end Sys2Proof.Tests
end

/-! PROOFS. The silent round (R12). A silent round changes only the LAU, and then the check of LISTENING (R51) is made;
so the facts here are what that check leaves unchanged, when it does nothing at all, and who owns a slot. -/

namespace Sys2Proof.Machine

/-! ### The check of LISTENING -/

@[simp] theorem enterJoining_lau (s : State) : (enterJoining s).lau = s.lau := rfl

@[simp] theorem checkListening_lau (s : State) : (checkListening s).lau = s.lau := by
  unfold checkListening
  split
  · exact enterJoining_lau s
  · rfl

@[simp] theorem checkListening_number (s : State) : (checkListening s).station.number = s.station.number :=
  ((checkListening_keeps s s).mpr (Keeps.refl s)).number

/-- A station that does not wait for L is left as it is, whatever L (R51). -/
theorem checkListening_of_not_waitsForL {s : State} (h : ¬WaitsForL s) : checkListening s = s :=
  if_neg fun ⟨listening, timerOut, _⟩ => h ⟨listening, timerOut⟩

/-! ### The owner of a slot -/

/-- Slot k belongs to the station numbered L + k, modulo 32 (R11). -/
theorem ownsSlot_iff_of_last {s : State} {l : StationNo} (h : s.lau.last = some l) (k : Nat) :
    ownsSlot s k = true ↔ (l.val + k) % 32 = s.station.number.val := by
  simp only [ownsSlot, h, beq_iff_eq]

/-- With L at 31 the slots of a round belong to the stations in order, from station 0 (R12). -/
theorem ownsSlot_iff_of_last_31 {s : State} (h : s.lau.last = some 31) {k : Nat} (first : 1 ≤ k) (last : k ≤ 32) :
    ownsSlot s k = true ↔ s.station.number.val = k - 1 := by
  have owner : ((31 : StationNo).val + k) % 32 = k - 1 := by
    change (31 + k) % 32 = k - 1
    omega
  rw [ownsSlot_iff_of_last h, owner, eq_comm]

/-! ### The silent round -/

/-- The LAU at the start of the round that follows a silent round (R12). -/
def Lau.afterSilentRound (x : Lau) : Lau :=
  { x with last := some 31, recovery := false, phase := .contention 1 false }

/-- At the end of slot 32 the row changes the LAU alone, and then checks LISTENING (R12, R51). -/
theorem exec_silentRound {s : State} (h : s.lau.phase = .contention 32 true) :
    exec .silentRound s = .next (checkListening (s.setLau s.lau.afterSilentRound)) :=
  congrArg Host.Outcome.next (if_pos h)

/-- Settles O10: the new L, 31, gives every slot's owner, and a station that does not wait for L passes the check of
LISTENING unchanged. -/
theorem silentRound : Obligations.SilentRound := by
  intro s slot32
  have lau : (checkListening (s.setLau s.lau.afterSilentRound)).lau = s.lau.afterSilentRound := by
    rw [checkListening_lau, State.setLau_lau]
  refine ⟨_, exec_silentRound slot32, lau, fun k first last => ?owner, fun known => ?frame⟩
  case owner =>
    have l31 : (checkListening (s.setLau s.lau.afterSilentRound)).lau.last = some 31 := congrArg Lau.last lau
    rw [ownsSlot_iff_of_last_31 l31 first last, checkListening_number, State.setLau_station]
  case frame =>
    have known' : ¬WaitsForL (s.setLau s.lau.afterSilentRound) := known
    rw [lau, checkListening_of_not_waitsForL known']

end Sys2Proof.Machine

/-! PROOFS. SET_VALID (R83). A taken command whose effect is known answers as `State.answered` says, for any command;
the rest is what SET_VALID reads from its COMMAND bytes, and its effect check by check. -/

namespace Sys2Proof.Machine

/-! ### A taken command's answer -/

/-- The code and the tag that the answer repeats are the ones written, and the effect leaves the mailbox to the port. -/
theorem hostCommand_eq_answered {code tag : Byte} {params : List (Fin 16 × Byte)} {effect : State → Reply × State}
    {s u : State} {r : Reply} (takes : HostTakes s) (above : ∀ p ∈ params, 2 ≤ p.1.val)
    (outcome : effect (commandWritten code tag params s) = (r, commandWritten code tag params u)) :
    hostCommand code tag params effect s = u.answered code tag params r := by
  have codeRead : (commandWritten code tag params u).cmd 0 = code := putBytes_code code tag params _ above
  have tagRead : (commandWritten code tag params u).cmd 1 = tag := putBytes_tag code tag params _ above
  rw [hostCommand_taken code tag params s effect takes, takeCommand, outcome, completeCommand, codeRead, tagRead]
  rfl

/-! ### The window a parameter names -/

/-- A byte from 0 to 7 names the window of that number (R75). -/
theorem windowNo_of_le {b : Byte} (h : b.toNat ≤ 7) : windowNo b = some (Fin.ofNat 8 b.toNat) := by
  have small : b.toNat < 8 := Nat.lt_succ_of_le h
  have number : (⟨b.toNat, small⟩ : Fin 8) = Fin.ofNat 8 b.toNat := Fin.ext (Nat.mod_eq_of_lt small).symm
  rw [windowNo, dif_pos small, number]

/-- A byte above 7 names none. -/
theorem windowNo_of_not_le {b : Byte} (h : ¬b.toNat ≤ 7) : windowNo b = none :=
  dif_neg fun small => h (Nat.le_of_lt_succ small)

/-! ### The effect, check by check -/

section
variable {s : State} {w : Fin 8}

theorem setValidEffect_badId (unnamed : windowNo (s.cmd 2) = none) :
    setValidEffect s = (.refused .badArg 2, s) := by
  simp only [setValidEffect, unnamed]

theorem setValidEffect_notOpen (named : windowNo (s.cmd 2) = some w) (closed : ¬(s.window w).isOpen = true) :
    setValidEffect s = (.refused .notOpen 0, s) := by
  simp only [setValidEffect, named, if_pos (Bool.eq_false_of_not_eq_true closed)]

theorem setValidEffect_tooLong (named : windowNo (s.cmd 2) = some w) (opened : (s.window w).isOpen = true)
    (above : ¬(s.cmdWord 4 5).toNat ≤ (s.window w).size) : setValidEffect s = (.refused .range 0, s) := by
  simp only [setValidEffect, named, opened, Bool.true_eq_false, if_false, if_pos (Nat.lt_of_not_le above)]

theorem setValidEffect_ok (named : windowNo (s.cmd 2) = some w) (opened : (s.window w).isOpen = true)
    (within : (s.cmdWord 4 5).toNat ≤ (s.window w).size) :
    setValidEffect s = (.ok [], s.setWindow w { s.window w with valid := (s.cmdWord 4 5).toNat }) := by
  simp only [setValidEffect, named, opened, Bool.true_eq_false, if_false, if_neg (Nat.not_lt_of_le within)]

end

/-! ### The command with its parameters -/

/-- The state in which SET_VALID is taken: its bytes stand in the COMMAND area (R189, R190). -/
def setValidWritten (tag id : Byte) (length : Word) (s : State) : State :=
  commandWritten 0x12#8 tag [(2, id), (4, hi length), (5, lo length)] s

section
variable (tag id : Byte) (length : Word) (s : State)

@[simp] theorem setValidWritten_id : (setValidWritten tag id length s).cmd 2 = id := by
  simp [setValidWritten, cmd_commandWritten, putBytes]

@[simp] theorem setValidWritten_length : (setValidWritten tag id length s).cmdWord 4 5 = length := by
  have high : (setValidWritten tag id length s).cmd 4 = hi length := by
    simp [setValidWritten, cmd_commandWritten, putBytes]
  have low : (setValidWritten tag id length s).cmd 5 = lo length := by
    simp [setValidWritten, cmd_commandWritten, putBytes]
  rw [State.cmdWord, high, low, word_hi_lo]

@[simp] theorem setValidWritten_window (w : Fin 8) : (setValidWritten tag id length s).window w = s.window w := rfl

/-- Writing the COMMAND area and writing the Window Table do not meet. -/
theorem setValidWritten_setWindow (w : Fin 8) (x : Window) :
    setValidWritten tag id length (s.setWindow w x) = (setValidWritten tag id length s).setWindow w x := rfl

/-- The row answers what the effect replies, in the state it leaves. -/
theorem exec_setValid {u : State} {r : Reply} (takes : HostTakes s)
    (outcome : setValidEffect (setValidWritten tag id length s) = (r, setValidWritten tag id length u)) :
    exec (.setValid tag id length) s =
      .next (u.answered 0x12#8 tag [(2, id), (4, hi length), (5, lo length)] r) :=
  congrArg Host.Outcome.next (hostCommand_eq_answered takes (by simp [wordAt]) outcome)

end

/-- Settles O46: each clause is the effect's case of that check, read at the bytes the row writes. -/
theorem setValid : Obligations.SetValid := by
  rintro s tag id length _ takes rfl _ rfl
  have unnamed (h : ¬id.toNat ≤ 7) : windowNo ((setValidWritten tag id length s).cmd 2) = none := by
    rw [setValidWritten_id, windowNo_of_not_le h]
  have named (h : id.toNat ≤ 7) :
      windowNo ((setValidWritten tag id length s).cmd 2) = some (Fin.ofNat 8 id.toNat) := by
    rw [setValidWritten_id, windowNo_of_le h]
  refine ⟨fun r fails => exec_setValid tag id length s takes ?refused, fun small opened within =>
    exec_setValid tag id length s takes ?ok⟩
  case refused =>
    obtain ⟨large, rfl⟩ | ⟨small, ⟨closed, rfl⟩ | ⟨opened, ⟨above, rfl⟩ | ⟨_, never⟩⟩⟩ := fails
    · exact setValidEffect_badId (unnamed large)
    · exact setValidEffect_notOpen (named small) closed
    · exact setValidEffect_tooLong (named small) opened (by rwa [setValidWritten_length])
    · exact never.elim
  case ok =>
    rw [setValidEffect_ok (named small) opened (by rwa [setValidWritten_length]), setValidWritten_length,
      setValidWritten_setWindow, setValidWritten_window]

end Sys2Proof.Machine

/-! PROOFS. The commands that name a channel (R95, R101, R137). A row of theirs takes its effect on the channel that
COMMAND byte 2 names, and answers what that effect replies; a number above 7 names none, and the row is refused. -/

namespace Sys2Proof.Machine

/-! ### The channel a parameter names -/

/-- A byte that holds a channel's number names that channel (R95). -/
theorem channelNo_of_toNat_eq {n : Byte} {c : ChannelNo} (number : n.toNat = c.val) : channelNo n = some c := by
  have small : n.toNat < 8 := number ▸ c.isLt
  rw [channelNo, dif_pos small]
  exact congrArg some (Fin.ext number)

/-- A byte above 7 names none. -/
theorem channelNo_of_gt {n : Byte} (large : 7 < n.toNat) : channelNo n = none :=
  dif_neg (Nat.not_lt_of_le large)

section
variable {s u : State} {code tag n : Byte} {params : List (Fin 16 × Byte)} {act : ChannelNo → State → Reply × State}

/-- The channel number stands in byte 2, and no later parameter is written over it (10_host_port.md 10.4). -/
theorem commandWritten_channelNumber (after : ∀ p ∈ params, 3 ≤ p.1.val) :
    (commandWritten code tag ((2, n) :: params) s).cmd 2 = n := by
  have kept := putBytes_other params (((s.port.command.set 0 code).set 1 tag).set 2 n) 2 fun p mem at2 => by
    have := after p mem
    rw [at2] at this
    exact absurd this (by decide)
  rw [cmd_commandWritten]
  exact kept.trans (by simp)

/-- Places from byte 3 on, and byte 2, leave the code and the tag. -/
theorem channelParams_above (after : ∀ p ∈ params, 3 ≤ p.1.val) : ∀ p ∈ (2, n) :: params, 2 ≤ p.1.val :=
  List.forall_mem_cons.mpr ⟨Nat.le_refl 2, fun p mem => Nat.le_of_succ_le (after p mem)⟩

/-- A channel command answers what it does on the channel that its number names. -/
theorem hostCommand_onChannel {c : ChannelNo} {r : Reply} (takes : HostTakes s) (after : ∀ p ∈ params, 3 ≤ p.1.val)
    (number : n.toNat = c.val)
    (outcome : act c (commandWritten code tag ((2, n) :: params) s) =
      (r, commandWritten code tag ((2, n) :: params) u)) :
    hostCommand code tag ((2, n) :: params) (onChannel act) s = u.answered code tag ((2, n) :: params) r := by
  refine hostCommand_eq_answered takes (channelParams_above after) ?_
  rw [onChannel, commandWritten_channelNumber after, channelNo_of_toNat_eq number]
  exact outcome

/-- Where the number names no channel, nothing of the command is looked at (R95). -/
theorem hostCommand_onChannel_above7 (takes : HostTakes s) (after : ∀ p ∈ params, 3 ≤ p.1.val) (large : 7 < n.toNat) :
    hostCommand code tag ((2, n) :: params) (onChannel act) s =
      s.answered code tag ((2, n) :: params) (.refused .badArg 2) := by
  refine hostCommand_eq_answered takes (channelParams_above after) ?_
  rw [onChannel, commandWritten_channelNumber after, channelNo_of_gt large]

end

/-! ### The rows -/

/-- The codes 0x20 to 0x29 are those of the ten channel commands: each row is a host command that acts on the channel
of byte 2, its other parameters after it. -/
theorem exec_of_channelRecord {i : Instr} {code tag n : Byte} {params : List (Fin 16 × Byte)}
    (record : commandRecord i = some ([(0, code), (1, tag)] ++ (2, n) :: params)) (first : 0x20 ≤ code.toNat)
    (last : code.toNat ≤ 0x29) :
    ∃ act, (∀ s, exec i s = .next (hostCommand code tag ((2, n) :: params) (onChannel act) s)) ∧
      ∀ p ∈ params, 3 ≤ p.1.val := by
  cases i with
  | start => cases record; exact ⟨startOn, fun _ => rfl, by simp [descriptorBytes, wordAt]⟩
  | arm => cases record; exact ⟨armOn, fun _ => rfl, by simp [descriptorBytes, wordAt]⟩
  | trigger => cases record; exact ⟨triggerOn, fun _ => rfl, by simp⟩
  | hold => cases record; exact ⟨holdOn, fun _ => rfl, by simp⟩
  | resume => cases record; exact ⟨resumeOn, fun _ => rfl, by simp⟩
  | cancel => cases record; exact ⟨cancelOn, fun _ => rfl, by simp⟩
  | setDeadline => cases record; exact ⟨setDeadlineOn, fun _ => rfl, by simp [wordAt]⟩
  | clearDeadline => cases record; exact ⟨clearDeadlineOn, fun _ => rfl, by simp⟩
  | channelInfo => cases record; exact ⟨channelInfoOn, fun _ => rfl, by simp⟩
  | release => cases record; exact ⟨releaseOn, fun _ => rfl, by simp⟩
  | peerInfo | openWindow | closeWindow | setValid | windowInfo => cases record; exact absurd first (by decide)
  | contextInfo | dropContext => cases record; exact absurd last (by decide)
  | _ => simp [commandRecord] at record

/-- Settles O48: each of the ten rows is `onChannel` of its own effect, which a number above 7 does not reach. -/
theorem channelNumberChecked : Obligations.ChannelNumberChecked := by
  intro s i code tag ch params takes record first last _ large
  obtain ⟨act, row, after⟩ := exec_of_channelRecord record first last
  rw [row, hostCommand_onChannel_above7 takes after large]

/-! ### RELEASE, CLEAR_DEADLINE on a channel -/

theorem ChannelState.ended_iff {st : ChannelState} : st.ended = true ↔ st = .done ∨ st = .failed := by
  cases st <;> decide

/-- An ARMED channel does not run yet (R94). -/
theorem ChannelState.not_running_of_armed {st : ChannelState} (armed : st = .armed) : ¬st.running = true := by
  subst armed
  decide

section
variable {s : State} {c : ChannelNo}

theorem releaseOn_ended (ended : (s.channel c).state.ended = true) :
    releaseOn c s =
      (.ok [], clearMarks c (s.setChannel c { s.channel c with state := .idle, condition := .none, detail := 0 })) :=
  if_pos ended

theorem releaseOn_notEnded (going : ¬(s.channel c).state.ended = true) :
    releaseOn c s = (.refused .channelState 0, s) :=
  if_neg going

/-- The first case of CLEAR_DEADLINE: a channel that runs with its deadline timer running. -/
theorem deadlineRuns_iff {ch : Channel} :
    (ch.state.running && ch.deadlineTimer.isSome) = true ↔ ch.state.running = true ∧ ch.deadlineTimer ≠ none := by
  rw [Bool.and_eq_true, Option.isSome_iff_ne_none]

theorem clearDeadlineOn_running (runs : (s.channel c).state.running = true ∧ (s.channel c).deadlineTimer ≠ none) :
    clearDeadlineOn c s =
      (.ok [], s.setChannel c { s.channel c with
        desc := { (s.channel c).desc with deadline := 0 }, deadlineTimer := none }) :=
  if_pos (deadlineRuns_iff.mpr runs)

theorem clearDeadlineOn_armed (armed : (s.channel c).state = .armed) :
    clearDeadlineOn c s =
      (.ok [], s.setChannel c { s.channel c with desc := { (s.channel c).desc with deadline := 0 } }) :=
  (if_neg fun runs => ChannelState.not_running_of_armed armed (deadlineRuns_iff.mp runs).1).trans (if_pos armed)

theorem clearDeadlineOn_elsewhere (notArmed : (s.channel c).state ≠ .armed)
    (still : ¬((s.channel c).state.running = true ∧ (s.channel c).deadlineTimer ≠ none)) :
    clearDeadlineOn c s = (.ok [], s) :=
  (if_neg fun runs => still (deadlineRuns_iff.mp runs)).trans (if_neg notArmed)

end

/-! ### The commands with their parameters -/

section
variable {s u : State} {tag n : Byte} {c : ChannelNo} {r : Reply}

theorem exec_release (takes : HostTakes s) (number : n.toNat = c.val)
    (outcome : releaseOn c (commandWritten 0x29#8 tag [(2, n)] s) = (r, commandWritten 0x29#8 tag [(2, n)] u)) :
    exec (.release tag n) s = .next (u.answered 0x29#8 tag [(2, n)] r) :=
  congrArg Host.Outcome.next (hostCommand_onChannel takes (List.forall_mem_nil _) number outcome)

theorem exec_clearDeadline (takes : HostTakes s) (number : n.toNat = c.val)
    (outcome : clearDeadlineOn c (commandWritten 0x27#8 tag [(2, n)] s) =
      (r, commandWritten 0x27#8 tag [(2, n)] u)) :
    exec (.clearDeadline tag n) s = .next (u.answered 0x27#8 tag [(2, n)] r) :=
  congrArg Host.Outcome.next (hostCommand_onChannel takes (List.forall_mem_nil _) number outcome)

end

/-- Settles O52: each clause is the command's case of that channel state. The COMMAND area does not meet the channel's
record nor the two sets, so the case reads and writes them as they stood before the command. -/
theorem releaseAndClearDeadline : Obligations.ReleaseAndClearDeadline := by
  rintro s tag n c _ takes number rfl
  refine ⟨fun ended => exec_release takes number (releaseOn_ended (ChannelState.ended_iff.mpr ended)),
    fun notDone notFailed => exec_release takes number (releaseOn_notEnded ?going),
    fun running timer => exec_clearDeadline takes number (clearDeadlineOn_running ⟨running, timer⟩),
    fun armed => exec_clearDeadline takes number (clearDeadlineOn_armed armed),
    fun notArmed still => exec_clearDeadline takes number (clearDeadlineOn_elsewhere notArmed still)⟩
  case going => exact fun ended => (ChannelState.ended_iff.mp ended).elim notDone notFailed

end Sys2Proof.Machine

/-! PROOFS. TAKE_ARRIVAL (R179). The command's effect is that of an empty queue or of an oldest record; what is left is
said in the form of R179, OVERFLOW by whether a record is left. -/

namespace Sys2Proof.Machine

/-! ### The queue that is left -/

/-- OVERFLOW clears when none is left, and otherwise stays (R179). -/
theorem ArrivalQueue.left_eq (q : ArrivalQueue) (rest : List Arrival) :
    q.left rest = { records := rest, overflow := if rest = [] then false else q.overflow } := by
  cases rest <;> simp [ArrivalQueue.left]

/-- A bit as a RESULT byte is 1 or 0. -/
theorem byteOf_toNat_bool (b : Bool) : byteOf b.toNat = if b then 1#8 else 0#8 := by
  cases b <;> rfl

/-! ### The effect -/

section
variable {s : State}

theorem takeArrivalEffect_empty (empty : s.arrivals.records = []) :
    takeArrivalEffect s = (.refused .empty 0, s) := by
  simp only [takeArrivalEffect, empty]

theorem takeArrivalEffect_oldest {r : Arrival} {rest : List Arrival} (oldest : s.arrivals.records = r :: rest) :
    takeArrivalEffect s =
      (.ok (r.body ++ [byteOf rest.length, byteOf (s.arrivals.left rest).overflow.toNat]),
        s.setArrivals (s.arrivals.left rest)) := by
  simp only [takeArrivalEffect, oldest]

/-! ### The command -/

/-- Writing the COMMAND area and writing the Arrival Queue do not meet. -/
theorem commandWritten_setArrivals (code tag : Byte) (params : List (Fin 16 × Byte)) (q : ArrivalQueue) :
    commandWritten code tag params (s.setArrivals q) = (commandWritten code tag params s).setArrivals q := rfl

/-- The row answers what the effect replies, in the state it leaves. -/
theorem exec_takeArrival {u : State} {tag : Byte} {r : Reply} (takes : HostTakes s)
    (outcome : takeArrivalEffect (commandWritten 0x38#8 tag [] s) = (r, commandWritten 0x38#8 tag [] u)) :
    exec (.takeArrival tag) s = .next (u.answered 0x38#8 tag [] r) :=
  congrArg Host.Outcome.next (hostCommand_eq_answered takes (List.forall_mem_nil _) outcome)

end

/-- Settles O53: writing the COMMAND area leaves the queue, so the effect's case is that of the queue before the
command; the effect leaves the port, and the notices in it, to the answer. -/
theorem takeArrival : Obligations.TakeArrival := by
  intro s tag takes
  refine ⟨fun empty => exec_takeArrival takes (takeArrivalEffect_empty empty), ?oldest⟩
  case oldest =>
    rintro r rest _ oldest rfl
    have waiting : (commandWritten 0x38#8 tag [] s).arrivals.records = r :: rest := oldest
    refine exec_takeArrival takes ?_
    rw [takeArrivalEffect_oldest waiting, commandWritten_arrivals, commandWritten_setArrivals, ArrivalQueue.left_eq,
      byteOf_toNat_bool, Arrival.body, List.append_assoc, List.singleton_append]
    cases r.windowId with
    | none => rfl
    | some w => rfl

end Sys2Proof.Machine

/-! PROOFS. What every step keeps (R60, R78, R92, R120, R140 to R145, R156, R170, R177, R179). Each operation of the model
passes each law on, and leaves the queue and the counter of free values; `KeepsLaws` says so, and composes. -/

namespace Sys2Proof.Machine

/-- Each law that holds in `s` holds in `t`, and the queue and the counter of free values stand as they were. -/
structure KeepsLaws (s t : State) : Prop where
  memory : MemoryLaw s → MemoryLaw t
  arrival : ArrivalLaw s → ArrivalLaw t
  self : SelfLaw s → SelfLaw t
  condition : ConditionLaw s → ConditionLaw t
  window : WindowLaw s → WindowLaw t
  slot : SlotLaw s → SlotLaw t
  pending : t.pending = s.pending
  freeCount : t.freeCount = s.freeCount

namespace KeepsLaws

theorem refl (s : State) : KeepsLaws s s := ⟨id, id, id, id, id, id, rfl, rfl⟩

theorem trans {s t u : State} (h : KeepsLaws s t) (g : KeepsLaws t u) : KeepsLaws s u :=
  ⟨g.memory ∘ h.memory, g.arrival ∘ h.arrival, g.self ∘ h.self, g.condition ∘ h.condition, g.window ∘ h.window,
    g.slot ∘ h.slot, g.pending.trans h.pending, g.freeCount.trans h.freeCount⟩

end KeepsLaws

/-! ### What the laws speak of -/

/-- `t` holds what the laws speak of as `s` does. -/
structure SameTables (s t : State) : Prop where
  cells : t.buffer.cells = s.buffer.cells
  arrivals : t.arrivals = s.arrivals
  entries : t.peers.entries = s.peers.entries
  number : t.station.number = s.station.number
  recs : t.chans.recs = s.chans.recs
  windows : t.windows = s.windows
  slots : t.ctxs.slots = s.ctxs.slots
  linger : t.ctxs.linger = s.ctxs.linger
  pending : t.pending = s.pending
  freeCount : t.freeCount = s.freeCount

section
variable {s t : State}

theorem MemoryLaw.of_cells (h : t.buffer.cells = s.buffer.cells) (law : MemoryLaw s) : MemoryLaw t := by
  rwa [MemoryLaw, h]

theorem ArrivalLaw.of_arrivals (h : t.arrivals = s.arrivals) (law : ArrivalLaw s) : ArrivalLaw t := by
  rwa [ArrivalLaw, h]

/-- The law of SELF rests on which entries are SELF and on the own number alone. -/
theorem SelfLaw.of_states (h : ∀ p, (t.peer p).state = .self ↔ (s.peer p).state = .self)
    (number : t.station.number = s.station.number) (law : SelfLaw s) : SelfLaw t := by
  intro p
  rw [h p, number]
  exact law p

theorem ConditionLaw.of_recs (h : t.chans.recs = s.chans.recs) (law : ConditionLaw s) : ConditionLaw t := by
  intro c
  rw [State.channel, h]
  exact law c

/-- Windows that are still OPEN, where and as large as they were, keep the law of windows. -/
theorem WindowLaw.of_openWindows (h : ∀ w, (t.window w).isOpen = true → (s.window w).isOpen = true ∧
      (t.window w).base = (s.window w).base ∧ (t.window w).sizeCode = (s.window w).sizeCode) (law : WindowLaw s) :
    WindowLaw t := by
  obtain ⟨apart, placed⟩ := law
  refine ⟨fun v w differ vOpen wOpen => ?_, fun w wOpen => ?_⟩
  · obtain ⟨vWas, vBase, vSize⟩ := h v vOpen
    obtain ⟨wWas, wBase, wSize⟩ := h w wOpen
    have := apart v w differ vWas wWas
    simpa only [Window.apart, Window.size, vBase, vSize, wBase, wSize] using this
  · obtain ⟨wWas, wBase, wSize⟩ := h w wOpen
    simpa only [Window.size, wBase, wSize] using placed w wWas

theorem WindowLaw.of_windows (h : t.windows = s.windows) (law : WindowLaw s) : WindowLaw t :=
  law.of_openWindows fun w opened => by
    have same : t.window w = s.window w := by rw [State.window, h]; rfl
    exact ⟨same ▸ opened, by rw [same], by rw [same]⟩

theorem SlotLaw.of_slots (slots : t.ctxs.slots = s.ctxs.slots) (linger : t.ctxs.linger = s.ctxs.linger)
    (law : SlotLaw s) : SlotLaw t := by
  have same : ∀ k, t.context k = s.context k := fun k => by rw [State.context, slots]; rfl
  exact
    { identity := fun j k => by rw [same, same]; exact law.identity j k
      asking := fun k => by rw [same]; exact law.asking k
      once := linger ▸ law.once
      lingering := fun k => by rw [same, linger]; exact law.lingering k }

theorem SameTables.laws (h : SameTables s t) : KeepsLaws s t :=
  { memory := MemoryLaw.of_cells h.cells
    arrival := ArrivalLaw.of_arrivals h.arrivals
    self := SelfLaw.of_states (fun p => by rw [State.peer, h.entries]; rfl) h.number
    condition := ConditionLaw.of_recs h.recs
    window := WindowLaw.of_windows h.windows
    slot := SlotLaw.of_slots h.slots h.linger
    pending := h.pending
    freeCount := h.freeCount }

end

/-! ### Updates that no law speaks of -/

namespace KeepsLaws

section
variable {s t : State} (h : KeepsLaws s t)
include h

theorem setPins (x : Pins) : KeepsLaws s (t.setPins x) :=
  h.trans (SameTables.laws ⟨rfl, rfl, rfl, rfl, rfl, rfl, rfl, rfl, rfl, rfl⟩)
theorem setLau (x : Lau) : KeepsLaws s (t.setLau x) :=
  h.trans (SameTables.laws ⟨rfl, rfl, rfl, rfl, rfl, rfl, rfl, rfl, rfl, rfl⟩)
theorem setRx (x : List Byte) : KeepsLaws s (t.setRx x) :=
  h.trans (SameTables.laws ⟨rfl, rfl, rfl, rfl, rfl, rfl, rfl, rfl, rfl, rfl⟩)
theorem setPort (x : HostPort) : KeepsLaws s (t.setPort x) :=
  h.trans (SameTables.laws ⟨rfl, rfl, rfl, rfl, rfl, rfl, rfl, rfl, rfl, rfl⟩)
theorem setArbiter (x : Claimant) : KeepsLaws s (t.setArbiter x) :=
  h.trans (SameTables.laws ⟨rfl, rfl, rfl, rfl, rfl, rfl, rfl, rfl, rfl, rfl⟩)
theorem setStation (x : Station) (number : x.number = t.station.number := by rfl) : KeepsLaws s (t.setStation x) :=
  h.trans (SameTables.laws ⟨rfl, rfl, rfl, number, rfl, rfl, rfl, rfl, rfl, rfl⟩)
theorem setPresenceTimer (x : Option Nat) : KeepsLaws s (t.setPeers { t.peers with presenceTimer := x }) :=
  h.trans (SameTables.laws ⟨rfl, rfl, rfl, rfl, rfl, rfl, rfl, rfl, rfl, rfl⟩)
theorem setChannelClaims (x : List ChannelClaim) : KeepsLaws s (t.setChans { t.chans with claims := x }) :=
  h.trans (SameTables.laws ⟨rfl, rfl, rfl, rfl, rfl, rfl, rfl, rfl, rfl, rfl⟩)
theorem setContextClaims (x : List ContextClaim) : KeepsLaws s (t.setCtxs { t.ctxs with claims := x }) :=
  h.trans (SameTables.laws ⟨rfl, rfl, rfl, rfl, rfl, rfl, rfl, rfl, rfl, rfl⟩)
theorem setPhase (x : Phase) : KeepsLaws s (t.setPhase x) := h.setLau _
theorem setAsk (x : Option Ask) : KeepsLaws s (t.setAsk x) := h.setLau _
theorem setAnswer (x : Option Frame) : KeepsLaws s (t.setAnswer x) := h.setLau _
theorem setL (l : StationNo) (recovery : Bool) : KeepsLaws s (t.setL l recovery) := h.setLau _
theorem setLineActive (b : Bool) : KeepsLaws s (t.setLineActive b) := h.setPins _
theorem setNotices (x : Notices) : KeepsLaws s (t.setNotices x) := h.setPort _

end

end KeepsLaws

/-! ### Buffer memory -/

/-- Buffer memory written in its canonical form. -/
theorem setCells_laws (s : State) (m : List Host.Cell) (wf : MemoryLaw s → Memory.wf m = true) :
    KeepsLaws s (s.setCells m) :=
  { memory := wf, arrival := id, self := id, condition := id, window := id, slot := SlotLaw.of_slots rfl rfl,
    pending := rfl, freeCount := rfl }

/-! ### Channels -/

/-- An operation of the Channel Engine touches no law but that of conditions. -/
theorem KeepsLaws.ofChannels {s t : State} (only : ChannelsOnly s t) (condition : ConditionLaw s → ConditionLaw t) :
    KeepsLaws s t :=
  { memory := MemoryLaw.of_cells (by rw [only.buffer])
    arrival := ArrivalLaw.of_arrivals only.arrivals
    self := SelfLaw.of_states (fun p => by rw [only.peer]) (by rw [only.station])
    condition := condition
    window := WindowLaw.of_windows only.windows
    slot := SlotLaw.of_slots (by rw [only.ctxs]) (by rw [only.ctxs])
    pending := only.pending
    freeCount := only.freeCount }

section
variable {ch x : Channel}

/-- The law of a channel speaks of its state, its condition and its two reasons. -/
theorem Channel.conditionLaw.of_same (law : ch.conditionLaw) (state : x.state = ch.state)
    (condition : x.condition = ch.condition) (abort : x.abortReason = ch.abortReason)
    (pend : x.endPending = ch.endPending) : x.conditionLaw := by
  rwa [Channel.conditionLaw, state, condition, abort, pend]

/-- A channel that has not ended moves to another state short of ABORTING with its condition NONE. -/
theorem Channel.conditionLaw.of_moved (law : ch.conditionLaw) (going : ch.state.ended = false)
    (still : x.state.ended = false) (running : x.state ≠ .aborting) (condition : x.condition = ch.condition)
    (pend : x.endPending = ch.endPending) : x.conditionLaw := by
  obtain ⟨-, -, clear, -, pendNone, pendOk⟩ := law
  refine ⟨?_, ?_, fun _ => condition.trans (clear going), fun e => absurd e running, pend ▸ pendNone, pend ▸ pendOk⟩
  · intro e; rw [e] at still; cases still
  · intro e; rw [e] at still; cases still

/-- A channel that ends with a condition meets the law, whatever it was. -/
theorem Channel.ended_conditionLaw (ch : Channel) {cond : Condition} (detail : Byte) (some : cond ≠ .none) :
    (ch.ended cond detail).conditionLaw := by
  by_cases ok : cond = .noError
  · subst ok; simp [Channel.conditionLaw, Channel.ended, ChannelState.ended]
  · simp [Channel.conditionLaw, Channel.ended, ChannelState.ended, ok, some]

theorem Channel.aborting_conditionLaw {why : AbortReason} (reason : why ≠ .none) (law : ch.conditionLaw) :
    (ch.aborting why).conditionLaw := by
  obtain ⟨-, -, -, -, pendNone, pendOk⟩ := law
  exact ⟨nofun, nofun, fun _ => rfl, fun _ => reason, pendNone, pendOk⟩

theorem Channel.started_conditionLaw (ch : Channel) : ch.started.conditionLaw :=
  ⟨nofun, nofun, fun _ => rfl, nofun, nofun, nofun⟩

/-- A reason to abort ends a channel with a condition other than NONE and NO_ERROR. -/
theorem AbortReason.condition_ne {why : AbortReason} (reason : why ≠ .none) :
    why.condition ≠ .none ∧ why.condition ≠ .noError := by
  cases why <;> simp_all [AbortReason.condition]

end

section
variable (s : State) (c : ChannelNo)

theorem setChannel_laws (x : Channel) (law : (s.channel c).conditionLaw → x.conditionLaw) :
    KeepsLaws s (s.setChannel c x) :=
  KeepsLaws.ofChannels (ChannelsOnly.setChannel s c x) fun all d => by
    rw [State.setChannel_channel]
    split
    · exact law (all c)
    · exact all d

/-- A channel's record rewritten but for its state, its condition and its two reasons. -/
theorem setChannel_laws_of_same (x : Channel) (state : x.state = (s.channel c).state := by rfl)
    (condition : x.condition = (s.channel c).condition := by rfl)
    (abort : x.abortReason = (s.channel c).abortReason := by rfl)
    (pend : x.endPending = (s.channel c).endPending := by rfl) : KeepsLaws s (s.setChannel c x) :=
  setChannel_laws s c x fun law => law.of_same state condition abort pend

theorem withdrawChannelClaim_laws : KeepsLaws s (withdrawChannelClaim c s) := (KeepsLaws.refl s).setChannelClaims _
theorem markEnded_laws : KeepsLaws s (markEnded c s) := (KeepsLaws.refl s).setPort _
theorem markProgress_laws : KeepsLaws s (markProgress c s) := (KeepsLaws.refl s).setPort _
theorem clearMarks_laws : KeepsLaws s (clearMarks c s) := (KeepsLaws.refl s).setPort _

theorem endChannel_laws {cond : Condition} (detail : Byte) (some : (s.channel c).conditionLaw → cond ≠ .none) :
    KeepsLaws s (endChannel c cond detail s) :=
  ((setChannel_laws s c _ fun law => Channel.ended_conditionLaw _ detail (some law)).trans (markEnded_laws _ c)).trans
    (withdrawChannelClaim_laws _ c)

theorem startChannel_laws : KeepsLaws s (startChannel c s) :=
  (setChannel_laws s c _ fun _ => Channel.started_conditionLaw _).trans (clearMarks_laws _ c)

theorem chainTrigger_laws : KeepsLaws s (chainTrigger c s) := by
  unfold chainTrigger
  repeat' split
  · exact startChannel_laws s c
  · exact endChannel_laws s c 0 fun _ => nofun
  · exact KeepsLaws.refl s

theorem endDone_laws : KeepsLaws s (endDone c s) := by
  have ends : KeepsLaws s (endChannel c .noError 0 s) := endChannel_laws s c 0 fun _ => nofun
  unfold endDone
  split
  · exact ends
  · exact ends.trans (chainTrigger_laws _ _)

theorem enterAborting_laws {why : AbortReason} (reason : why ≠ .none) : KeepsLaws s (enterAborting c why s) :=
  (setChannel_laws s c _ (Channel.aborting_conditionLaw reason)).trans (withdrawChannelClaim_laws _ c)

theorem enterHeld_laws (p : HeldPhase) (going : (s.channel c).state.ended = false) : KeepsLaws s (enterHeld c p s) :=
  (setChannel_laws s c ((s.channel c).held p) fun law => law.of_moved going rfl nofun rfl rfl).trans
    (withdrawChannelClaim_laws _ c)

theorem enterClose_laws (going : (s.channel c).state.ended = false) : KeepsLaws s (enterClose c s) :=
  setChannel_laws s c _ fun law => law.of_moved going rfl nofun rfl rfl

theorem claimFrame_laws : KeepsLaws s (claimFrame c s) :=
  (setChannel_laws_of_same s c { s.channel c with built := false, attempts := 0 }).setChannelClaims _

theorem countProgress_laws : KeepsLaws s (countProgress c s) := by
  unfold countProgress
  dsimp only
  repeat' split
  · exact KeepsLaws.refl s
  · exact (setChannel_laws_of_same s c { s.channel c with progressCount := 0 }).trans (markProgress_laws _ c)
  · exact setChannel_laws_of_same s c _

theorem confirmBytes_laws (n : Nat) : KeepsLaws s (confirmBytes c n s) :=
  (setChannel_laws_of_same s c { s.channel c with
    moved := (s.channel c).moved + n, remaining := (s.channel c).remaining - n, toggle := !(s.channel c).toggle }).trans
    (countProgress_laws _ c)

/-- The progress count and the bytes confirmed leave the channel's state. -/
theorem countProgress_state : ((countProgress c s).channel c).state = (s.channel c).state := by
  unfold countProgress
  dsimp only
  repeat' split
  · rfl
  · exact (congrArg Channel.state (State.setChannel_channel_same s c { s.channel c with progressCount := 0 }) :)
  · rw [State.setChannel_channel_same]

theorem confirmBytes_state (n : Nat) : ((confirmBytes c n s).channel c).state = (s.channel c).state :=
  (countProgress_state _ c).trans (by rw [State.setChannel_channel_same])

theorem setAttempts_laws (n : Nat) : KeepsLaws s (setAttempts c n s) := setChannel_laws_of_same s c _

theorem setAttempts_channel (n : Nat) : (setAttempts c n s).channel c = { s.channel c with attempts := n } :=
  State.setChannel_channel_same s c _

/-! ### Outcomes of a channel's ask -/

theorem endExhausted_laws : KeepsLaws s (endExhausted c s) := by
  unfold endExhausted
  dsimp only
  split
  · exact endChannel_laws s c 0 fun _ => nofun
  · exact endChannel_laws s c 0 fun _ => nofun
  · exact endChannel_laws s c 0 fun _ => by split <;> nofun
  · rename_i aborting
    exact endChannel_laws s c 0 fun ⟨_, _, _, reason, _⟩ => (AbortReason.condition_ne (reason aborting)).1
  · exact KeepsLaws.refl s

theorem channelNoAnswer_laws : KeepsLaws s (channelNoAnswer c s) := by
  unfold channelNoAnswer
  dsimp only
  split
  · exact setAttempts_laws s c _
  · exact (setAttempts_laws s c _).trans (endExhausted_laws _ c)

theorem endAfterAttempts_laws {cond : Condition} (n : Nat) (detail : Byte) (some : cond ≠ .none) :
    KeepsLaws s (endChannel c cond detail (setAttempts c n s)) :=
  (setAttempts_laws s c n).trans (endChannel_laws _ c detail fun _ => some)

theorem requestDeferred_laws (r : Byte) : KeepsLaws s (requestDeferred c r s) := by
  unfold requestDeferred
  dsimp only
  split
  · exact (setAttempts_laws s c _).trans (setChannel_laws_of_same _ c _)
  · exact endAfterAttempts_laws s c _ r nofun

theorem requestAccepted_laws (request : (s.channel c).state = .request) : KeepsLaws s (requestAccepted c s) := by
  have going : (s.channel c).state.ended = false := by rw [request]; rfl
  unfold requestAccepted
  dsimp only
  repeat' split
  · exact enterClose_laws s c going
  · exact (setChannel_laws s c { s.channel c with state := .data, attempts := 0 }
      fun law => law.of_moved going rfl nofun rfl rfl).trans (claimFrame_laws _ c)
  · exact setChannel_laws s c _ fun law => law.of_moved going rfl nofun rfl rfl

theorem requestTaken_laws (a : Answer) (request : (s.channel c).state = .request) : KeepsLaws s (requestTaken c a s) := by
  unfold requestTaken
  repeat' split
  · exact requestAccepted_laws s c request
  · exact requestDeferred_laws s c _
  · exact endAfterAttempts_laws s c 0 _ nofun
  · exact endAfterAttempts_laws s c 0 0 nofun
  · exact channelNoAnswer_laws s c
  · exact channelNoAnswer_laws s c

theorem putConfirmed_laws (data : (s.channel c).state = .data) : KeepsLaws s (putConfirmed c s) := by
  have moved : KeepsLaws s (setAttempts c 0 (confirmBytes c (s.channel c).heldFrame.payload.length s)) :=
    (confirmBytes_laws s c _).trans (setAttempts_laws _ c 0)
  have state := (congrArg Channel.state (setAttempts_channel
    (confirmBytes c (s.channel c).heldFrame.payload.length s) c 0)).trans (confirmBytes_state s c _)
  unfold putConfirmed
  dsimp only
  repeat' split
  · exact moved.trans (enterClose_laws _ c (by rw [state, data]; rfl))
  · exact moved.trans (setChannel_laws_of_same _ c _)
  · exact moved.trans (claimFrame_laws _ c)

theorem putDataTaken_laws (a : Answer) (data : (s.channel c).state = .data) : KeepsLaws s (putDataTaken c a s) := by
  unfold putDataTaken
  repeat' split
  · exact putConfirmed_laws s c data
  · exact channelNoAnswer_laws s c
  · exact endAfterAttempts_laws s c 0 _ nofun
  · exact endAfterAttempts_laws s c 0 0 nofun
  · exact endAfterAttempts_laws s c 0 _ nofun
  · exact channelNoAnswer_laws s c
  · exact channelNoAnswer_laws s c

theorem closeReported_laws (p : List Byte) : KeepsLaws s (closeReported c p s) := by
  have ends : ∀ cond detail, cond ≠ .none → KeepsLaws s (endChannel c cond detail s) := fun _ detail some =>
    endChannel_laws s c detail fun _ => some
  unfold closeReported
  dsimp only
  generalize (if (s.channel c).desc.op = .put then (s.channel c).desc.total else (s.channel c).moved) = due
  repeat' split
  · exact ends _ _ nofun
  · exact ends _ _ nofun
  · exact ends _ _ nofun
  · exact ends _ _ nofun
  · exact ends _ _ nofun
  · exact endDone_laws s c

theorem closeTaken_laws (a : Answer) : KeepsLaws s (closeTaken c a s) := by
  unfold closeTaken
  repeat' split
  · exact (setAttempts_laws s c 0).trans (closeReported_laws _ c _)
  · exact endAfterAttempts_laws s c 0 0 nofun
  · exact endAfterAttempts_laws s c 0 0 nofun
  · exact endAfterAttempts_laws s c 0 _ nofun
  · exact channelNoAnswer_laws s c
  · exact channelNoAnswer_laws s c
  · exact channelNoAnswer_laws s c

theorem abortTaken_laws (a : Answer) (aborting : (s.channel c).state = .aborting) : KeepsLaws s (abortTaken c a s) := by
  have ends : KeepsLaws s (endChannel c (s.channel c).abortReason.condition 0 (setAttempts c 0 s)) :=
    (setAttempts_laws s c 0).trans (endChannel_laws _ c 0 fun law => by
      rw [setAttempts_channel] at law
      obtain ⟨-, -, -, reason, -⟩ := law
      exact (AbortReason.condition_ne (reason aborting)).1)
  unfold abortTaken
  split
  · exact ends
  · exact ends
  · exact channelNoAnswer_laws s c
  · exact channelNoAnswer_laws s c
  · exact channelNoAnswer_laws s c

theorem channelTaken_laws (a : Answer) : KeepsLaws s (channelTaken c a s) := by
  unfold channelTaken
  repeat' split
  · exact requestTaken_laws s c a ‹_›
  · exact putDataTaken_laws s c a ‹_›
  · exact KeepsLaws.refl s
  · exact closeTaken_laws s c a
  · exact abortTaken_laws s c a ‹_›
  · exact KeepsLaws.refl s

/-- A state with a phase has not ended. -/
theorem ChannelState.ended_of_phase {st : ChannelState} {p : HeldPhase} (phase : st.phase = some p) : st.ended = false := by
  cases st <;> simp_all [ChannelState.phase, ChannelState.ended]

theorem applyPending_laws : KeepsLaws s (applyPending c s) := by
  unfold applyPending
  dsimp only
  repeat' split
  · exact KeepsLaws.refl s
  · rename_i pends
    exact endChannel_laws s c 0 fun ⟨_, _, _, _, notNone, _⟩ isNone =>
      notNone (pends.trans (congrArg Option.some isNone))
  · exact enterHeld_laws s c _ (ChannelState.ended_of_phase ‹_›)
  · exact KeepsLaws.refl s
  · exact KeepsLaws.refl s

theorem channelOutcome_laws (o : AskOutcome) : KeepsLaws s (channelOutcome c o s) := by
  have asked : KeepsLaws s (s.setChannel c { s.channel c with askInFlight := false }) := setChannel_laws_of_same s c _
  unfold channelOutcome
  refine KeepsLaws.trans ?_ (applyPending_laws _ c)
  cases o with
  | taken a => exact asked.trans (channelTaken_laws _ c a)
  | noAnswer => exact asked.trans (channelNoAnswer_laws _ c)
  | collided => exact asked

/-! ### Other events at a channel -/

theorem pendEnd_laws {why : Condition} (reason : (s.channel c).conditionLaw → why ≠ .none ∧ why ≠ .noError) :
    KeepsLaws s (pendEnd c why s) :=
  setChannel_laws s c _ fun law => by
    obtain ⟨some, error⟩ := reason law
    obtain ⟨done, failed, clear, aborting, pendNone, pendOk⟩ := law
    refine ⟨done, failed, clear, aborting, ?_, ?_⟩
    all_goals
      dsimp only
      cases e : (s.channel c).endPending with
      | none => simpa
      | some r => simp_all

theorem giveUp_laws {why : AbortReason} (reason : why ≠ .none) : KeepsLaws s (giveUp c why s) := by
  have pends : KeepsLaws s (pendEnd c why.condition s) := pendEnd_laws s c fun _ => AbortReason.condition_ne reason
  have ends : KeepsLaws s (endChannel c why.condition 0 s) :=
    endChannel_laws s c 0 fun _ => (AbortReason.condition_ne reason).1
  have aborts : KeepsLaws s (enterAborting c why s) := enterAborting_laws s c reason
  unfold giveUp
  dsimp only
  repeat' split
  · exact pends
  · exact ends
  · exact pends
  · exact aborts
  · exact pends
  · exact aborts
  · exact ends
  · exact aborts
  · exact KeepsLaws.refl s

theorem interruptChannel_laws {why : Condition} (some : why ≠ .none) (error : why ≠ .noError) :
    KeepsLaws s (interruptChannel why s c) := by
  have pends : KeepsLaws s (pendEnd c why s) := pendEnd_laws s c fun _ => ⟨some, error⟩
  have ends : KeepsLaws s (endChannel c why 0 s) := endChannel_laws s c 0 fun _ => some
  unfold interruptChannel
  dsimp only
  repeat' split
  · exact pends
  · exact ends
  · exact pends
  · exact ends
  · exact pends
  · exact ends
  · exact ends
  · rename_i aborting _
    exact pendEnd_laws s c fun ⟨_, _, _, reason, _⟩ => AbortReason.condition_ne (reason aborting)
  · rename_i aborting _
    exact endChannel_laws s c 0 fun ⟨_, _, _, reason, _⟩ => (AbortReason.condition_ne (reason aborting)).1
  · exact KeepsLaws.refl s

end

/-- A fold of steps that each keep the laws keeps them. -/
theorem foldl_laws {α : Type} (l : List α) (f : State → α → State) (step : ∀ t a, KeepsLaws t (f t a)) (s : State) :
    KeepsLaws s (l.foldl f s) := by
  induction l generalizing s with
  | nil => exact KeepsLaws.refl s
  | cons a l ih => exact (step s a).trans (ih _)

theorem PeerEvent.condition_ne (e : PeerEvent) : e.condition ≠ .none ∧ e.condition ≠ .noError := by
  cases e <;> decide

section
variable (s : State)

theorem channelsPeerEvent_laws (p : StationNo) (e : PeerEvent) : KeepsLaws s (channelsPeerEvent p e.condition s) :=
  foldl_laws _ _ (fun t c => by
    split
    · exact interruptChannel_laws t c e.condition_ne.1 e.condition_ne.2
    · exact KeepsLaws.refl t) s

theorem channelsWithdraw_laws : KeepsLaws s (channelsWithdraw s) :=
  foldl_laws _ _ (fun t c => by
    split
    · exact endChannel_laws t c 0 fun _ => nofun
    · exact interruptChannel_laws t c nofun nofun) s

theorem channelsClash_laws : KeepsLaws s (channelsClash s) :=
  foldl_laws _ _ (fun t c => by
    split
    · exact KeepsLaws.refl t
    · exact KeepsLaws.refl t
    · exact KeepsLaws.refl t
    · exact endChannel_laws t c 0 fun _ => nofun) s

end

end Sys2Proof.Machine

/-! PROOFS. What the Responder Engine keeps of the laws: the Arrival Queue's by its one append, the windows' because only
a valid length changes, and the slots' by what each operation does to one slot and to the linger order (R140 to R145). -/

namespace Sys2Proof.Machine

/-! ### The queue and the windows -/

/-- Records appended keep the queue's law (R177, R178). -/
theorem ArrivalLaw.of_taking {s t : State} {rs : List Arrival} (taken : t.arrivals = s.arrivals.taking rs)
    (law : ArrivalLaw s) : ArrivalLaw t := by
  obtain ⟨short, full⟩ := law
  rw [ArrivalLaw, taken]
  refine ⟨?_, fun overflows empty => ?_⟩
  · simp only [ArrivalQueue.taking, List.length_take]
    omega
  · have noneWaiting : s.arrivals.records = [] := by
      have := congrArg List.length empty
      simp only [ArrivalQueue.taking, List.length_take, List.length_append, List.length_nil] at this
      exact List.eq_nil_of_length_eq_zero (by omega)
    have noRecords : rs = [] := by
      have := congrArg List.length empty
      simp only [ArrivalQueue.taking, List.length_take, List.length_append, List.length_nil] at this
      exact List.eq_nil_of_length_eq_zero (by omega)
    refine full ?_ noneWaiting
    simpa [ArrivalQueue.taking, noRecords] using overflows

/-- An operation of the Responder Engine that keeps the laws of the queue and of the windows. -/
structure ContextsMove (s t : State) : Prop where
  only : ContextsOnly s t
  arrival : ArrivalLaw s → ArrivalLaw t
  window : WindowLaw s → WindowLaw t

theorem ContextsMove.trans {s t u : State} (h : ContextsMove s t) (g : ContextsMove t u) : ContextsMove s u :=
  ⟨h.only.trans g.only, g.arrival ∘ h.arrival, g.window ∘ h.window⟩

/-- With the law of slots besides, such an operation keeps every law. -/
theorem ContextsMove.laws {s t : State} (h : ContextsMove s t) (slot : SlotLaw s → SlotLaw t) : KeepsLaws s t :=
  { memory := MemoryLaw.of_cells (by rw [h.only.buffer])
    arrival := h.arrival
    self := SelfLaw.of_states (fun p => by rw [h.only.peer]) (by rw [h.only.station])
    condition := ConditionLaw.of_recs (by rw [h.only.chans])
    window := h.window
    slot := slot
    pending := h.only.pending
    freeCount := h.only.freeCount }

section
variable (s : State) (k : SlotNo)

/-- An operation on the engine's own records alone. -/
theorem setCtxs_moves (x : ResponderEngine) : ContextsMove s (s.setCtxs x) :=
  ⟨rfl, ArrivalLaw.of_arrivals rfl, WindowLaw.of_windows rfl⟩

theorem setContext_moves (x : Context) : ContextsMove s (s.setContext k x) := setCtxs_moves s _

theorem freeContext_moves : ContextsMove s (freeContext k s) :=
  ⟨freeContext_only s k, ArrivalLaw.of_arrivals rfl, WindowLaw.of_windows rfl⟩

theorem endContext_moves (r : Result) : ContextsMove s (endContext k r s) := by
  have ends := endContext_ends s k r
  refine ⟨endContext_only s k r, ArrivalLaw.of_taking ends.arrivals, WindowLaw.of_openWindows fun w opened => ?_⟩
  have written := ends.window w
  split at written
  · rw [written] at opened ⊢
    exact ⟨opened, rfl, rfl⟩
  · rw [written] at opened ⊢
    exact ⟨opened, rfl, rfl⟩

theorem buildData_moves : ContextsMove s (buildData k s) := by
  unfold buildData
  dsimp only
  repeat' split
  · exact setContext_moves s k _
  · exact setContext_moves s k _
  · exact setCtxs_moves s _

/-! ### One slot -/

end

/-- The law of slots after one slot and the linger order are written. -/
theorem SlotLaw.of_slot {s t : State} {k : SlotNo} (law : SlotLaw s)
    (others : ∀ j, j ≠ k → t.context j = s.context j)
    (identity : (t.context k).state ≠ .free → ∀ j, j ≠ k → (s.context j).state ≠ .free →
      ¬((s.context j).initiator = (t.context k).initiator ∧ (s.context j).xch = (t.context k).xch))
    (asking : (t.context k).askInFlight = true → (t.context k).state = .sending)
    (once : t.ctxs.linger.Nodup)
    (lingers : k ∈ t.ctxs.linger ↔ (t.context k).state = .lingering)
    (otherLingers : ∀ j, j ≠ k → (j ∈ t.ctxs.linger ↔ j ∈ s.ctxs.linger)) : SlotLaw t where
  identity i j iHolds jHolds initiator xch := by
    by_cases ik : i = k
    · by_cases jk : j = k
      · rw [ik, jk]
      · subst ik
        rw [others j jk] at jHolds initiator xch
        exact absurd ⟨initiator.symm, xch.symm⟩ (identity iHolds j jk jHolds)
    · rw [others i ik] at iHolds initiator xch
      by_cases jk : j = k
      · subst jk
        exact absurd ⟨initiator, xch⟩ (identity jHolds i ik iHolds)
      · rw [others j jk] at jHolds initiator xch
        exact law.identity i j iHolds jHolds initiator xch
  asking j := by
    by_cases jk : j = k
    · subst jk; exact asking
    · rw [others j jk]; exact law.asking j
  once := once
  lingering j := by
    by_cases jk : j = k
    · subst jk; exact lingers
    · rw [others j jk, otherLingers j jk]; exact law.lingering j

section
variable {s : State} {k : SlotNo}

/-- A slot that holds an exchange shares its identity with no other. -/
theorem SlotLaw.identity_apart (law : SlotLaw s) (holds : (s.context k).state ≠ .free) {j : SlotNo} (jk : j ≠ k)
    (jHolds : (s.context j).state ≠ .free) :
    ¬((s.context j).initiator = (s.context k).initiator ∧ (s.context j).xch = (s.context k).xch) :=
  fun ⟨initiator, xch⟩ => jk (law.identity j k jHolds holds initiator xch)

/-- A slot's record rewritten, its identity kept, and its state too or from one active state to another. -/
theorem SlotLaw.setContext (law : SlotLaw s) {x : Context} (initiator : x.initiator = (s.context k).initiator)
    (xch : x.xch = (s.context k).xch)
    (state : x.state = (s.context k).state ∨ (x.state.active = true ∧ (s.context k).state.active = true))
    (asking : x.askInFlight = true → x.state = .sending) : SlotLaw (s.setContext k x) := by
  have same : (s.setContext k x).context k = x := State.setContext_context_same s k x
  have holds : x.state ≠ .free → (s.context k).state ≠ .free := by
    rcases state with state | ⟨-, active⟩
    · rw [state]; exact id
    · intro _ free; rw [free] at active; cases active
  have lingers : x.state = .lingering ↔ (s.context k).state = .lingering := by
    rcases state with state | ⟨active, wasActive⟩
    · rw [state]
    · constructor <;> intro e
      · rw [e] at active; cases active
      · rw [e] at wasActive; cases wasActive
  refine law.of_slot (fun j jk => State.setContext_context_other s k j x jk) ?_ ?_ law.once ?_ fun _ _ => Iff.rfl
  · rw [same, initiator, xch]
    exact fun held j jk => law.identity_apart (holds held) jk
  · rwa [same]
  · rw [same, lingers]
    exact law.lingering k

/-- A slot freed leaves the linger order (R142, R143). -/
theorem SlotLaw.freeContext (law : SlotLaw s) : SlotLaw (freeContext k s) := by
  have freed := freeContext_freed s k
  refine law.of_slot freed.others ?_ ?_ ?_ ?_ fun j jk => ?_
  · rw [freed.record]; exact fun held => absurd rfl held
  · rw [freed.record]; nofun
  · rw [freed.linger]; exact law.once.filter _
  · rw [freed.record, freed.linger]; simp
  · rw [freed.linger]; simp [jk]

/-- An active context that ends joins the linger order where its result lets it linger (R143, R162). -/
theorem SlotLaw.endContext (law : SlotLaw s) (active : (s.context k).state.active = true) (r : Result) :
    SlotLaw (endContext k r s) := by
  have ends := endContext_ends s k r
  have notFree : (s.context k).state ≠ .free := fun e => by rw [e] at active; cases active
  have notIn : k ∉ s.ctxs.linger := fun e => by rw [(law.lingering k).mp e] at active; cases active
  refine law.of_slot ends.others ?_ ?_ ?_ ?_ fun j jk => ?_
  · rw [ends.record]
    exact fun _ j jk => law.identity_apart notFree jk
  · rw [ends.record]; nofun
  · rw [ends.linger]
    split
    · exact List.nodup_append.mpr ⟨law.once, List.nodup_singleton k, by
        rintro a inOrder b isK rfl
        exact notIn (List.mem_singleton.mp isK ▸ inOrder)⟩
    · exact law.once
  · rw [ends.record, ends.linger]
    by_cases lingers : r.code ≤ 7
    · simp [Context.after, lingers]
    · simp [Context.after, lingers, notIn]
  · rw [ends.linger]
    split <;> simp [jk]

/-- Building a DATA keeps every slot's state, identity and ask. -/
theorem SlotLaw.buildData (law : SlotLaw s) : SlotLaw (buildData k s) := by
  unfold Sys2Proof.Machine.buildData
  dsimp only
  repeat' split
  · exact law.setContext rfl rfl (.inl rfl) (law.asking k)
  · exact law.setContext rfl rfl (.inl rfl) (law.asking k)
  · exact SlotLaw.of_slots (s := s.setContext k { s.context k with
      built := false, attempts := 0, finalMark := false }) rfl rfl (law.setContext rfl rfl (.inl rfl) (law.asking k))

end

section
variable (s : State) (k : SlotNo)

theorem endContext_laws (r : Result) (active : (s.context k).state.active = true) : KeepsLaws s (endContext k r s) :=
  (endContext_moves s k r).laws fun law => law.endContext active r

theorem freeContext_laws : KeepsLaws s (freeContext k s) := (freeContext_moves s k).laws SlotLaw.freeContext

theorem buildData_laws : KeepsLaws s (buildData k s) := (buildData_moves s k).laws SlotLaw.buildData

/-- A slot's record rewritten but for its state, its identity and its ask. -/
theorem setContext_laws_of_same (x : Context) (state : x.state = (s.context k).state := by rfl)
    (initiator : x.initiator = (s.context k).initiator := by rfl) (xch : x.xch = (s.context k).xch := by rfl)
    (asking : x.askInFlight = (s.context k).askInFlight := by rfl) : KeepsLaws s (s.setContext k x) :=
  (setContext_moves s k x).laws fun law =>
    law.setContext initiator xch (.inl state) fun asks => state.trans (law.asking k (asking ▸ asks))

/-! ### Outcomes of a context's ask -/

theorem contextNoAnswer_moves : ContextsMove s (contextNoAnswer k s) := by
  unfold contextNoAnswer
  dsimp only
  split
  · exact setContext_moves s k _
  · exact (setContext_moves s k _).trans (endContext_moves _ k _)

theorem contextConfirmed_moves : ContextsMove s (contextConfirmed k s) := by
  unfold contextConfirmed
  dsimp only
  split
  · exact setContext_moves s k _
  · exact (setContext_moves s k _).trans (buildData_moves _ k)

theorem contextTaken_moves (a : Answer) : ContextsMove s (contextTaken k a s) := by
  unfold contextTaken
  repeat' split
  · exact contextConfirmed_moves s k
  · exact contextNoAnswer_moves s k
  · exact setContext_moves s k _
  · exact (setContext_moves s k _).trans (endContext_moves _ k _)
  · exact contextNoAnswer_moves s k
  · exact contextNoAnswer_moves s k

end

section
variable {s : State} {k : SlotNo} (law : SlotLaw s) (active : (s.context k).state.active = true)
  (quiet : (s.context k).askInFlight = false)
include law active quiet

/-- A rewrite of the attempt count and the like, before the context ends. -/
theorem SlotLaw.endRewritten (x : Context) (r : Result) (state : x.state = (s.context k).state := by rfl)
    (initiator : x.initiator = (s.context k).initiator := by rfl) (xch : x.xch = (s.context k).xch := by rfl)
    (asking : x.askInFlight = (s.context k).askInFlight := by rfl) :
    SlotLaw (Sys2Proof.Machine.endContext k r (s.setContext k x)) :=
  (law.setContext initiator xch (.inl state) fun asks => by rw [asking, quiet] at asks; cases asks).endContext
    (by rw [State.setContext_context_same, state]; exact active) r

theorem SlotLaw.contextNoAnswer : SlotLaw (contextNoAnswer k s) := by
  unfold Sys2Proof.Machine.contextNoAnswer
  dsimp only
  split
  · exact law.setContext rfl rfl (.inl rfl) (law.asking k)
  · exact law.endRewritten active quiet _ _

theorem SlotLaw.contextConfirmed : SlotLaw (contextConfirmed k s) := by
  unfold Sys2Proof.Machine.contextConfirmed
  dsimp only
  split
  · exact law.setContext rfl rfl (.inr ⟨rfl, active⟩) fun asks => by
      rw [show _ = false from quiet] at asks; cases asks
  · exact SlotLaw.buildData (s := s.setContext k { s.context k with
        moved := (s.context k).moved + (s.context k).heldFrame.payload.length, toggle := !(s.context k).toggle,
        attempts := 0, idleTimer := some s.idleLength })
      (law.setContext rfl rfl (.inl rfl) (law.asking k))

theorem SlotLaw.contextTaken (a : Answer) : SlotLaw (contextTaken k a s) := by
  unfold Sys2Proof.Machine.contextTaken
  repeat' split
  · exact law.contextConfirmed active quiet
  · exact law.contextNoAnswer active quiet
  · exact law.setContext rfl rfl (.inl rfl) (law.asking k)
  · exact law.endRewritten active quiet _ _
  · exact law.contextNoAnswer active quiet
  · exact law.contextNoAnswer active quiet

end

section
variable (s : State) (k : SlotNo)

/-- The outcome of a slot's ask: with the ask in flight the slot is SENDING, so an end of it is an active one's. -/
theorem contextOutcome_laws (o : AskOutcome) : KeepsLaws s (contextOutcome k o s) := by
  unfold contextOutcome
  dsimp only
  split
  · rename_i asks
    have answered := setContext_moves s k { s.context k with askInFlight := false }
    have record : (s.setContext k { s.context k with askInFlight := false }).context k =
      { s.context k with askInFlight := false } := State.setContext_context_same s k _
    have law₁ (law : SlotLaw s) : SlotLaw (s.setContext k { s.context k with askInFlight := false }) :=
      law.setContext rfl rfl (.inl rfl) nofun
    have active (law : SlotLaw s) :
        ((s.setContext k { s.context k with askInFlight := false }).context k).state.active = true := by
      rw [record]
      exact congrArg ContextState.active (law.asking k asks)
    have quiet : ((s.setContext k { s.context k with askInFlight := false }).context k).askInFlight = false := by
      rw [record]
    cases o with
    | taken a =>
      exact (answered.trans (contextTaken_moves _ k a)).laws fun law => (law₁ law).contextTaken (active law) quiet a
    | noAnswer =>
      exact (answered.trans (contextNoAnswer_moves _ k)).laws fun law => (law₁ law).contextNoAnswer (active law) quiet
    | collided => exact answered.laws law₁
  · exact KeepsLaws.refl s

/-! ### Other events -/

theorem endWhere_laws (cond : Context → Bool) (r : Result) (freeing : Bool) :
    KeepsLaws s (endWhere cond r freeing s k) := by
  unfold endWhere
  repeat' split
  · exact endContext_laws s k r ‹_›
  · exact freeContext_laws s k
  · exact KeepsLaws.refl s
  · exact KeepsLaws.refl s

theorem contextsWindowClosed_laws (w : Fin 8) : KeepsLaws s (contextsWindowClosed w s) :=
  foldl_laws _ _ (fun t j => endWhere_laws t j _ _ _) s
theorem contextsPeerEvent_laws (p : StationNo) : KeepsLaws s (contextsPeerEvent p s) :=
  foldl_laws _ _ (fun t j => endWhere_laws t j _ _ _) s
theorem contextsWithdraw_laws : KeepsLaws s (contextsWithdraw s) :=
  foldl_laws _ _ (fun t j => endWhere_laws t j _ _ _) s
theorem contextsClash_laws : KeepsLaws s (contextsClash s) := foldl_laws _ _ (fun t j => endWhere_laws t j _ _ _) s

end

/-! ### The slot that holds an exchange -/

section
variable {s : State} {p : StationNo} {xch : ChannelNo}

theorem mem_allSlots (k : SlotNo) : k ∈ allSlots := by revert k; decide

theorem holder_eq_none : holder s p xch = none ↔ ∀ k, ¬HoldsExchange s k p xch := by
  simp only [holder, List.find?_eq_none, HoldsExchange]
  constructor
  · intro h k ⟨held, initiator, same⟩
    exact h k (mem_allSlots k) (by simp [held, initiator, same])
  · rintro h k -
    have := h k
    simpa [and_assoc] using this

theorem holder_eq_some {k : SlotNo} (h : holder s p xch = some k) : HoldsExchange s k p xch := by
  have := List.find?_some h
  simpa [HoldsExchange, and_assoc] using this

/-- A state that is neither FREE nor LINGERING is active (R140). -/
theorem ContextState.active_of_ne {st : ContextState} (free : st ≠ .free) (lingering : st ≠ .lingering) :
    st.active = true := by
  cases st <;> simp_all [ContextState.active]

/-- After the match of a REQUEST no slot holds its identity (R145). -/
theorem supersede_clears (law : SlotLaw s) (j : SlotNo) : ¬HoldsExchange (supersede p xch s) j p xch := by
  unfold supersede
  split
  · exact holder_eq_none.mp ‹_› j
  · rename_i k found
    obtain ⟨held, initiator, same⟩ := holder_eq_some found
    have notOther (jk : j ≠ k) : ¬HoldsExchange s j p xch := fun ⟨jHeld, jInitiator, jXch⟩ =>
      jk (law.identity j k jHeld held (jInitiator.trans initiator.symm) (jXch.trans same.symm))
    split
    · have freed := freeContext_freed s k
      by_cases jk : j = k
      · subst jk; exact fun ⟨jHeld, _⟩ => jHeld (by rw [freed.record])
      · rw [HoldsExchange, freed.others j jk]; exact notOther jk
    · have ends := endContext_ends s k .superseded
      by_cases jk : j = k
      · subst jk; exact fun ⟨jHeld, _⟩ => jHeld (by rw [ends.record]; rfl)
      · rw [HoldsExchange, ends.others j jk]; exact notOther jk

end

section
variable (s : State) (k : SlotNo)

theorem supersede_laws (p : StationNo) (xch : ChannelNo) : KeepsLaws s (supersede p xch s) := by
  unfold supersede
  repeat' split
  · exact KeepsLaws.refl s
  · exact freeContext_laws s _
  · rename_i found notLingering
    obtain ⟨held, -⟩ := holder_eq_some found
    exact endContext_laws s _ _ (ContextState.active_of_ne held notLingering)

theorem supersede_moves (p : StationNo) (xch : ChannelNo) : ContextsMove s (supersede p xch s) := by
  unfold supersede
  repeat' split
  · exact ⟨rfl, id, id⟩
  · exact freeContext_moves s _
  · exact endContext_moves s _ _

/-- A LINGERING slot that a REQUEST takes is reclaimed first (R147). -/
def reclaimSlot (k : SlotNo) (s : State) : State :=
  if (s.context k).state = .lingering then freeContext k s else s

theorem acceptRequest_eq (p : StationNo) (xch : ChannelNo) (q : RequestBody) :
    acceptRequest k p xch q s =
      if (acceptedContext p xch q (reclaimSlot k s)).state = .sending then
        buildData k ((reclaimSlot k s).setContext k (acceptedContext p xch q (reclaimSlot k s)))
      else (reclaimSlot k s).setContext k (acceptedContext p xch q (reclaimSlot k s)) := rfl

theorem acceptRequest_moves (p : StationNo) (xch : ChannelNo) (q : RequestBody) :
    ContextsMove s (acceptRequest k p xch q s) := by
  have reclaimed : ContextsMove s (reclaimSlot k s) := by
    unfold reclaimSlot
    split
    · exact freeContext_moves s k
    · exact ⟨rfl, id, id⟩
  rw [acceptRequest_eq]
  split
  · exact (reclaimed.trans (setContext_moves _ k _)).trans (buildData_moves _ k)
  · exact reclaimed.trans (setContext_moves _ k _)

/-- An accepted context waits, receives or sends; it does not linger (R149). -/
theorem acceptedContext_not_lingering (p : StationNo) (xch : ChannelNo) (q : RequestBody) :
    (acceptedContext p xch q s).state ≠ .lingering := by
  simp only [acceptedContext]
  split
  · nofun
  · split <;> nofun

/-- The record of an accepted REQUEST in a slot that does not linger, where no other holds its identity (R140). -/
theorem SlotLaw.setAccepted {t : State} {k : SlotNo} {p : StationNo} {xch : ChannelNo} (law : SlotLaw t)
    (notLingering : (t.context k).state ≠ .lingering) (unheld : ∀ j, j ≠ k → ¬HoldsExchange t j p xch)
    (q : RequestBody) : SlotLaw (t.setContext k (acceptedContext p xch q t)) := by
  have same : (t.setContext k (acceptedContext p xch q t)).context k = acceptedContext p xch q t :=
    State.setContext_context_same t k _
  have notIn : k ∉ t.ctxs.linger := fun e => notLingering ((law.lingering k).mp e)
  refine law.of_slot (fun j jk => State.setContext_context_other t k j _ jk) ?_ ?_ law.once ?_ fun _ _ => Iff.rfl
  · rw [same]
    exact fun _ j jk held identity => unheld j jk ⟨held, identity⟩
  · rw [same]; nofun
  · rw [same]
    exact ⟨fun e => absurd e notIn, fun e => absurd e (acceptedContext_not_lingering t p xch q)⟩

/-- A REQUEST accepted into a slot, where no slot holds its identity (R140, R149). -/
theorem SlotLaw.acceptRequest {s : State} {k : SlotNo} {p : StationNo} {xch : ChannelNo} (law : SlotLaw s)
    (unheld : ∀ j, ¬HoldsExchange s j p xch) (q : RequestBody) : SlotLaw (acceptRequest k p xch q s) := by
  have start : SlotLaw ((reclaimSlot k s).setContext k (acceptedContext p xch q (reclaimSlot k s))) := by
    unfold reclaimSlot
    split
    · have freed := freeContext_freed s k
      refine law.freeContext.setAccepted (by rw [freed.record]; nofun) (fun j jk => ?_) q
      rw [HoldsExchange, freed.others j jk]
      exact unheld j
    · exact law.setAccepted ‹_› (fun j _ => unheld j) q
  rw [acceptRequest_eq]
  split
  · exact start.buildData
  · exact start

theorem takeRequest_laws (p : StationNo) (xch : ChannelNo) (q : RequestBody) :
    KeepsLaws s (takeRequest p xch q s).2 := by
  have matched := supersede_laws s p xch
  unfold takeRequest
  dsimp only
  repeat' split
  · exact matched
  · exact ((supersede_moves s p xch).trans (acceptRequest_moves _ _ p xch q)).laws fun law =>
      (matched.slot law).acceptRequest (supersede_clears law) q
  · exact matched

end

end Sys2Proof.Machine

/-! PROOFS. What the arbiter, the Peer Table, the Station Controller, the LAU and the timers keep of the laws: each
operation from those it is made of, in the order of the model. -/

namespace Sys2Proof.Machine

/-! ### Claims served and payloads written -/

section
variable (s : State)

theorem serve_laws (who : Claimant) : KeepsLaws s (serve who s) := by
  cases who with
  | host =>
    simp only [serve, serveHost]
    split
    · exact KeepsLaws.refl s
    · exact ((KeepsLaws.refl s).setPort _).setArbiter _
    · exact (((KeepsLaws.refl s).setPort _).trans
        (setCells_laws _ _ fun wf => memPut_wf _ wf (Nat.mod_lt _ (by decide)))).setArbiter _
  | channels =>
    simp only [serve, serveChannel]
    split
    · exact KeepsLaws.refl s
    · exact (((KeepsLaws.refl s).setChannelClaims _).trans (setChannel_laws_of_same _ _ _)).setArbiter _
  | responders =>
    simp only [serve, serveContext]
    split
    · exact KeepsLaws.refl s
    · exact (((KeepsLaws.refl s).setContextClaims _).trans (setContext_laws_of_same _ _ _)).setArbiter _

theorem serveInTurn_laws (who : Claimant) : KeepsLaws s (serveInTurn who s) := by
  unfold serveInTurn
  split
  · exact serve_laws s who
  · exact KeepsLaws.refl s

theorem serveEach_laws (l : List Claimant) : KeepsLaws s (serveEach l s) := by
  induction l generalizing s with
  | nil => exact KeepsLaws.refl s
  | cons who l ih =>
    unfold serveEach
    refine KeepsLaws.trans ?_ (ih _)
    split
    · exact serve_laws s who
    · exact KeepsLaws.refl s

theorem writePayload_laws (who : Claimant) (address : Nat) (bytes : List Byte) :
    KeepsLaws s (writePayload who address bytes s) := by
  unfold writePayload
  dsimp only
  split
  · exact KeepsLaws.refl s
  · exact ((serveEach_laws s _).trans (setCells_laws _ _ fun wf => memWrite_wf _ _ wf)).setArbiter _

/-- A claim served changes a held frame and what belongs to it, and no channel's state. -/
theorem serve_channel_state (who : Claimant) (c : ChannelNo) :
    ((serve who s).channel c).state = (s.channel c).state := by
  cases who with
  | host => simp only [serve, serveHost]; split <;> rfl
  | channels =>
    simp only [serve, serveChannel]
    split
    · rfl
    · rename_i cl rest _
      show (((s.setChans { s.chans with claims := rest }).setChannel cl.ch _).channel c).state = _
      rw [State.setChannel_channel]
      split
      · rename_i same; subst same; rfl
      · rfl
  | responders => simp only [serve, serveContext]; split <;> rfl

/-- Nor does it change a slot's state. -/
theorem serve_context_state (who : Claimant) (k : SlotNo) :
    ((serve who s).context k).state = (s.context k).state := by
  cases who with
  | host => simp only [serve, serveHost]; split <;> rfl
  | channels => simp only [serve, serveChannel]; split <;> rfl
  | responders =>
    simp only [serve, serveContext]
    split
    · rfl
    · rename_i cl rest _
      show (((s.setCtxs { s.ctxs with claims := rest }).setContext cl.slot _).context k).state = _
      rw [State.setContext_context]
      split
      · rename_i same; subst same; rfl
      · rfl

/-- What every claim served leaves, a payload write leaves. -/
theorem writePayload_induct {motive : State → Prop} (who : Claimant) (address : Nat) (bytes : List Byte)
    (served : ∀ t other, motive t → motive (serve other t))
    (written : ∀ t m, motive t → motive ((t.setCells m).setArbiter who)) (start : motive s) :
    motive (writePayload who address bytes s) := by
  have each (l : List Claimant) (t : State) (h : motive t) : motive (serveEach l t) := by
    induction l generalizing t with
    | nil => exact h
    | cons other l ih =>
      unfold serveEach
      refine ih _ ?_
      split
      · exact served t other h
      · exact h
  unfold writePayload
  dsimp only
  split
  · exact start
  · exact written _ _ (each _ s start)

theorem writePayload_channel_state (who : Claimant) (address : Nat) (bytes : List Byte) (c : ChannelNo) :
    ((writePayload who address bytes s).channel c).state = (s.channel c).state :=
  writePayload_induct s who address bytes (motive := fun t => (t.channel c).state = (s.channel c).state)
    (fun t other h => (serve_channel_state t other c).trans h) (fun _ _ h => h) rfl

theorem writePayload_context_state (who : Claimant) (address : Nat) (bytes : List Byte) (k : SlotNo) :
    ((writePayload who address bytes s).context k).state = (s.context k).state :=
  writePayload_induct s who address bytes (motive := fun t => (t.context k).state = (s.context k).state)
    (fun t other h => (serve_context_state t other k).trans h) (fun _ _ h => h) rfl

/-! ### DATA at a channel -/

theorem takeNewData_laws (c : ChannelNo) (tgl : Bool) (payload : List Byte) (data : (s.channel c).state = .data) :
    KeepsLaws s (takeNewData c tgl payload s).2 := by
  have moved : KeepsLaws s (confirmBytes c payload.length
      (writePayload .channels (s.channel c).nextAddress payload s)) :=
    (writePayload_laws s _ _ _).trans (confirmBytes_laws _ c _)
  have state : ((confirmBytes c payload.length
      (writePayload .channels (s.channel c).nextAddress payload s)).channel c).state = .data := by
    rw [confirmBytes_state, writePayload_channel_state, data]
  unfold takeNewData
  dsimp only
  repeat' split
  · exact enterAborting_laws s c nofun
  · exact moved.trans (enterClose_laws _ c (by rw [state]; rfl))
  · exact moved.trans (setChannel_laws_of_same _ c _)

theorem takeChannelData_laws (src : StationNo) (c : ChannelNo) (tgl : Bool) (payload : List Byte) :
    KeepsLaws s (takeChannelData src c tgl payload s).2 := by
  have same := KeepsLaws.refl s
  unfold takeChannelData
  dsimp only
  split
  · exact same
  · split
    · exact same
    · split
      · exact takeNewData_laws s c tgl payload ‹_›
      · exact setChannel_laws_of_same s c _
    · split <;> exact same
    · split
      · exact same
      · split <;> exact same
      · split <;> exact same
    · exact same

/-! ### Frames of an exchange at a slot that holds it -/

section
variable (k : SlotNo)

theorem receiveBytes_laws (payload : List Byte) (receiving : (s.context k).state = .receiving) :
    KeepsLaws s (receiveBytes k payload s) := by
  have state := (writePayload_context_state s .responders (contextAddress s (s.context k)) payload k).trans receiving
  refine (writePayload_laws s .responders (contextAddress s (s.context k)) payload).trans ?_
  refine (setContext_moves _ k _).laws fun law => law.setContext rfl rfl ?_ fun asks => ?_
  · dsimp only
    split
    · exact .inr ⟨rfl, by rw [state]; rfl⟩
    · exact .inl rfl
  · have sending := law.asking k asks
    rw [state] at sending
    cases sending

theorem endAndReport_laws (r : Result) (active : (s.context k).state.active = true) :
    KeepsLaws s (endAndReport k r s).2 := endContext_laws s k r active

theorem dataToContext_laws (tgl : Bool) (payload : List Byte) (held : (s.context k).state ≠ .free) :
    KeepsLaws s (dataToContext k tgl payload s).2 := by
  unfold dataToContext
  dsimp only
  split
  · exact KeepsLaws.refl s
  · have active := ContextState.active_of_ne held ‹_›
    repeat' split
    · exact endAndReport_laws s k _ active
    · exact setContext_laws_of_same s k _
    · rename_i new
      exact receiveBytes_laws s k payload new.1
    · exact endAndReport_laws s k _ active

theorem closeToContext_laws (held : (s.context k).state ≠ .free) : KeepsLaws s (closeToContext k s).2 := by
  unfold closeToContext
  split
  · exact KeepsLaws.refl s
  · rename_i drained
    exact endAndReport_laws s k _ (by rw [drained]; rfl)
  · rename_i notLingering _
    exact endAndReport_laws s k _ (ContextState.active_of_ne held notLingering)

theorem abortToContext_laws (held : (s.context k).state ≠ .free) : KeepsLaws s (abortToContext k s).2 := by
  unfold abortToContext
  split
  · exact KeepsLaws.refl s
  · rename_i notLingering
    exact endAndReport_laws s k _ (ContextState.active_of_ne held notLingering)

end

theorem byIdentity_laws (p : StationNo) (xch : ChannelNo) (act : SlotNo → State → Answer × State)
    (acts : ∀ k, (s.context k).state ≠ .free → KeepsLaws s (act k s).2) : KeepsLaws s (byIdentity p xch act s).2 := by
  unfold byIdentity
  repeat' split
  · exact KeepsLaws.refl s
  · exact KeepsLaws.refl s
  · rename_i k found
    obtain ⟨held, -⟩ := holder_eq_some found
    exact acts k held

/-! ### The Peer Table -/

theorem setPeer_laws (p : StationNo) (x : Peer) (own : SelfLaw s → (x.state = .self ↔ p = s.station.number)) :
    KeepsLaws s (s.setPeer p x) :=
  { memory := MemoryLaw.of_cells rfl
    arrival := ArrivalLaw.of_arrivals rfl
    self := fun law q => by
      rw [State.setPeer_peer]
      split
      · rename_i same; subst same; exact own law
      · exact law q
    condition := ConditionLaw.of_recs rfl
    window := WindowLaw.of_windows rfl
    slot := SlotLaw.of_slots rfl rfl
    pending := rfl
    freeCount := rfl }

/-- The entry of another station is written and not SELF. -/
theorem setPeer_laws_of_ne (p : StationNo) (x : Peer) (other : p ≠ s.station.number) (notSelf : x.state ≠ .self) :
    KeepsLaws s (s.setPeer p x) :=
  setPeer_laws s p x fun _ => ⟨fun e => absurd e notSelf, fun e => absurd e other⟩

/-- A PRESENT entry is written and not SELF. -/
theorem setPeer_laws_of_present (p : StationNo) (x : Peer) (present : (s.peer p).state = .present)
    (notSelf : x.state ≠ .self) : KeepsLaws s (s.setPeer p x) :=
  setPeer_laws s p x fun law => ⟨fun e => absurd e notSelf, fun e => by
    rw [(law p).mpr e] at present; cases present⟩

theorem raisePeerChange_laws : KeepsLaws s (raisePeerChange s) := (KeepsLaws.refl s).setNotices _

theorem refreshPeer_laws (p : StationNo) (other : p ≠ s.station.number) : KeepsLaws s (refreshPeer p s) := by
  have written := setPeer_laws_of_ne s p { s.peer p with
    state := .present, expiry := some (s.expiryLength (s.peer p).announced) } other nofun
  unfold refreshPeer
  dsimp only
  split
  · exact written
  · exact written.trans (raisePeerChange_laws _)

theorem tellEngines_laws (p : StationNo) (e : PeerEvent) : KeepsLaws s (tellEngines p e s) :=
  (channelsPeerEvent_laws s p e).trans (contextsPeerEvent_laws _ p)

theorem peerJoined_laws (p : StationNo) (a : Announcement) (other : p ≠ s.station.number) :
    KeepsLaws s (peerJoined p a s) := by
  have written := setPeer_laws_of_ne s p { announcedPeer s (s.peer p) a with
    joinCount := min ((s.peer p).joinCount + 1) 255 } other nofun
  refine KeepsLaws.trans ?_ (raisePeerChange_laws _)
  split
  · exact written.trans (tellEngines_laws _ p _)
  · exact written

theorem peerAnnounced_laws (p : StationNo) (a : Announcement) (other : p ≠ s.station.number) :
    KeepsLaws s (peerAnnounced p a s) := by
  have written := setPeer_laws_of_ne s p (announcedPeer s (s.peer p) a) other nofun
  unfold peerAnnounced
  dsimp only
  split
  · exact written
  · exact written.trans (raisePeerChange_laws _)

theorem peerGone_laws (p : StationNo) (why : PeerEvent) (present : s.present p = true) :
    KeepsLaws s (peerGone p why s) :=
  ((setPeer_laws_of_present s p { s.peer p with state := .absent, expiry := none } (beq_iff_eq.mp present)
    nofun).trans (tellEngines_laws _ p why)).trans (raisePeerChange_laws _)

theorem peerLeaves_laws (p : StationNo) : KeepsLaws s (peerLeaves p s) := by
  unfold peerLeaves
  split
  · exact peerGone_laws s p _ ‹_›
  · exact KeepsLaws.refl s

end

/-- In a cleared table the own number's entry, and that alone, is SELF (R60). -/
theorem SelfLaw.of_cleared {t : State} {own : StationNo} {joins : Nat} (peers : t.peers = PeerTable.cleared own joins)
    (number : t.station.number = own) : SelfLaw t := by
  intro p
  have entry : t.peer p = if p = own then Peer.ofSelf joins else Peer.cleared := by
    simp only [State.peer, peers, PeerTable.cleared, Vector.getElem_ofFn]
  rw [entry, number]
  split
  · exact ⟨fun _ => ‹_›, fun _ => rfl⟩
  · exact ⟨nofun, fun e => absurd e ‹_›⟩

section
variable (s : State)

theorem clearPeers_laws (joins : Nat) : KeepsLaws s (clearPeers joins s) := by
  unfold clearPeers
  generalize cleared : PeerTable.cleared s.station.number joins = table
  exact
    { memory := MemoryLaw.of_cells rfl
      arrival := ArrivalLaw.of_arrivals rfl
      self := fun _ => SelfLaw.of_cleared (own := s.station.number) (joins := joins) cleared.symm rfl
      condition := ConditionLaw.of_recs rfl
      window := WindowLaw.of_windows rfl
      slot := SlotLaw.of_slots rfl rfl
      pending := rfl
      freeCount := rfl }

theorem clearPeersNoticed_laws : KeepsLaws s (clearPeersNoticed s) := by
  unfold clearPeersNoticed
  dsimp only
  split
  · exact (clearPeers_laws s _).trans (raisePeerChange_laws _)
  · exact clearPeers_laws s _

theorem stopPresence_laws : KeepsLaws s (stopPresence s) := ((KeepsLaws.refl s).setPresenceTimer _).setStation _

theorem restartPresence_laws : KeepsLaws s (restartPresence s) := by
  unfold restartPresence
  split
  · exact ((KeepsLaws.refl s).setPresenceTimer _).setStation _
  · exact KeepsLaws.refl s

/-! ### The station states -/

theorem enterMode_laws (m : StationMode) : KeepsLaws s (enterMode m s) :=
  ((KeepsLaws.refl s).setStation _).setNotices _

theorem enterListening_laws : KeepsLaws s (enterListening s) := ((enterMode_laws s _).setStation _).setLau _

theorem enterJoining_laws : KeepsLaws s (enterJoining s) := (enterMode_laws s _).setStation _

theorem checkListening_laws : KeepsLaws s (checkListening s) := by
  unfold checkListening
  split
  · exact enterJoining_laws s
  · exact KeepsLaws.refl s

theorem enterWithdrawing_laws : KeepsLaws s (enterWithdrawing s) := by
  unfold enterWithdrawing
  refine .trans (.trans (.trans ?_ (channelsWithdraw_laws _)) (contextsWithdraw_laws _)) (stopPresence_laws _)
  exact (enterMode_laws s _).setStation _

theorem enterWithdrawn_laws : KeepsLaws s (enterWithdrawn s) := by
  unfold enterWithdrawn
  exact (((enterMode_laws s _).setStation _).setLau _).trans (clearPeersNoticed_laws _)

theorem withdrawAtOnce_laws : KeepsLaws s (withdrawAtOnce s) :=
  ((channelsWithdraw_laws s).trans (contextsWithdraw_laws _)).trans (enterWithdrawn_laws _)

theorem enterClash_laws : KeepsLaws s (enterClash s) := by
  unfold enterClash
  refine .trans (.trans (.trans ?_ (clearPeersNoticed_laws _)) (channelsClash_laws _)) (contextsClash_laws _)
  exact (((enterMode_laws s _).setStation _).setLau _).setRx _

theorem reportClash_laws : KeepsLaws s (reportClash s) := by
  unfold reportClash
  split
  · exact enterClash_laws s
  · exact KeepsLaws.refl s

theorem applyWithdrawal_laws : KeepsLaws s (applyWithdrawal s) := by
  have taken := (KeepsLaws.refl s).setStation { s.station with withdrawPending := false }
  unfold applyWithdrawal
  dsimp only
  split
  · split
    · exact taken.trans (enterWithdrawing_laws _)
    · exact taken.trans (withdrawAtOnce_laws _)
    · exact taken
  · exact KeepsLaws.refl s

theorem enterFirstMode_laws : KeepsLaws s (enterFirstMode s) := by
  unfold enterFirstMode
  split
  · exact enterListening_laws s
  · exact enterMode_laws s _

theorem endLoading_laws : KeepsLaws s (endLoading s) := by
  unfold endLoading
  dsimp only
  repeat' split
  · exact (((KeepsLaws.refl s).setStation _).setPort _).trans (enterFirstMode_laws _)
  · exact KeepsLaws.refl s
  · exact KeepsLaws.refl s

theorem endRead_laws (r : ConfigValues × ConfigSource) : KeepsLaws s (endRead r s) := by
  unfold endRead
  split
  · exact ((KeepsLaws.refl s).setStation _).trans (endLoading_laws _)
  · exact KeepsLaws.refl s

theorem endClearing_laws : KeepsLaws s (endClearing s) := by
  unfold endClearing
  split
  · exact (((KeepsLaws.refl s).setStation _).trans (setCells_laws _ [] fun _ => rfl)).trans (endLoading_laws _)
  · exact KeepsLaws.refl s

/-! ### Reset -/

theorem conditionLaw_reset : Channel.reset.conditionLaw := ⟨nofun, nofun, fun _ => rfl, nofun, nofun, nofun⟩

/-- The channels after a full reset or RESTART. -/
theorem ConditionLaw.of_reset {t : State} (h : t.chans.recs = ChannelEngine.reset.recs) : ConditionLaw t := by
  intro c
  have record : t.channel c = Channel.reset := by
    simp only [State.channel, h, ChannelEngine.reset, Vector.getElem_replicate]
  rw [record]
  exact conditionLaw_reset

/-- The slots after a full reset or RESTART: all FREE, none lingering. -/
theorem SlotLaw.of_reset {t : State} (slots : t.ctxs.slots = ResponderEngine.reset.slots)
    (linger : t.ctxs.linger = []) : SlotLaw t := by
  have record : ∀ k, t.context k = Context.reset := fun k => by
    simp only [State.context, slots, ResponderEngine.reset, Vector.getElem_replicate]
  exact
    { identity := fun j k held => by rw [record] at held; exact absurd rfl held
      asking := fun k asks => by rw [record] at asks; cases asks
      once := by rw [linger]; exact List.nodup_nil
      lingering := fun k => by rw [linger, record]; exact ⟨nofun, nofun⟩ }

/-- The windows after a full reset: none is OPEN. -/
theorem WindowLaw.of_reset {t : State} (h : t.windows = Vector.replicate 8 Window.reset) : WindowLaw t := by
  have closed : ∀ w, (t.window w).isOpen = false := fun w => by
    simp only [State.window, h, Vector.getElem_replicate, Window.reset]
  have never {w : Fin 8} (opened : (t.window w).isOpen = true) : False := by
    rw [closed] at opened
    cases opened
  exact ⟨fun _ _ _ opened => (never opened).elim, fun _ opened => (never opened).elim⟩

theorem fullReset_laws (sn : StationNo) (rate : Fin 4) (held : Bool) : KeepsLaws s (fullReset sn rate held s) :=
  { memory := MemoryLaw.of_cells rfl
    arrival := fun _ => ⟨Nat.zero_le _, nofun⟩
    self := fun _ => SelfLaw.of_cleared (own := sn) (joins := 0) rfl rfl
    condition := fun _ => ConditionLaw.of_reset rfl
    window := fun _ => WindowLaw.of_reset rfl
    slot := fun _ => SlotLaw.of_reset rfl rfl
    pending := rfl
    freeCount := rfl }

theorem restartClear_laws : KeepsLaws s (restartClear s) := by
  have cleared : KeepsLaws s (clearPeers 0 ((s.setLau Lau.reset).setRx [])) :=
    (((KeepsLaws.refl s).setLau _).setRx _).trans (clearPeers_laws _ 0)
  have emptied := cleared.setStation (clearPeers 0 ((s.setLau Lau.reset).setRx [])).station.emptied
  exact
    { memory := emptied.memory
      arrival := emptied.arrival
      self := emptied.self
      condition := fun _ => ConditionLaw.of_reset rfl
      window := emptied.window
      slot := fun _ => SlotLaw.of_reset rfl rfl
      pending := rfl
      freeCount := rfl }

end

end Sys2Proof.Machine

/-! PROOFS. The laws are kept by the LAU, the arrivals, the timers, the host's commands and bytes, so by every row and by
the tick; what every row keeps is said once, in `exec_laws`, and the statements about the laws are read from it. -/

namespace Sys2Proof.Machine

/-! ### The LAU -/

section
variable (s : State)

theorem resolveAsk_laws (o : AskOutcome) : KeepsLaws s (resolveAsk o s) := by
  have taken := (KeepsLaws.refl s).setAsk none
  unfold resolveAsk
  split
  · exact KeepsLaws.refl s
  · split
    · exact taken
    · exact taken.trans (channelOutcome_laws _ _ o)
    · exact taken.trans (contextOutcome_laws _ _ o)

theorem beginActivity_laws : KeepsLaws s (beginActivity s) := by
  have same := KeepsLaws.refl s
  have begins := ((same.setPhase .receiving).setLineActive true).setRx []
  unfold beginActivity
  split
  · split
    · exact same
    · exact begins
  · exact begins
  · exact begins
  · exact same
  · exact same.setLineActive true
  · exact same.setLineActive true

theorem endUnseen_laws : KeepsLaws s (endUnseen s) := by
  have same := KeepsLaws.refl s
  unfold endUnseen
  split
  · exact same
  · exact same
  · exact same
  · exact same.setLineActive false

theorem endCorrupted_laws (buffered : List Byte) : KeepsLaws s (endCorrupted buffered s) := by
  unfold endCorrupted
  split
  · exact (KeepsLaws.refl s).setLineActive false
  · refine .trans (.setAnswer (.setPhase (.setL ?_ _ _) _) _) (checkListening_laws _)
    exact (((KeepsLaws.refl s).setLineActive false).setRx _).trans (resolveAsk_laws _ _)

/-- An asking frame that begins flags its source; a context that asks is SENDING (R103, R141). -/
theorem flagAsk_laws (src : Source) (sending : ∀ k, src = .context k → (s.context k).state = .sending) :
    KeepsLaws s (flagAsk src s) := by
  cases src with
  | station => exact KeepsLaws.refl s
  | channel c => exact setChannel_laws_of_same s c _
  | context k =>
    exact (setContext_moves s k _).laws fun law => law.setContext rfl rfl (.inl rfl) fun _ => sending k rfl

theorem beginAsk_laws (src : Source) (sending : ∀ k, src = .context k → (s.context k).state = .sending) :
    KeepsLaws s (beginAsk src s) :=
  ((KeepsLaws.refl s).setLau _).trans (flagAsk_laws _ src sending)

/-- What the scheduler picks of the order is ready (R21). -/
theorem pick_ready {i : Fin 12} (h : pick s = some (.place i)) : sourceReady s (sourceAt i) = true := by
  have next : nextPlace s = some i := by
    unfold pick at h
    split at h
    · split at h <;> cases h
    · split at h
      · cases h
      · cases e : nextPlace s <;> simp_all
    · split at h
      · simp_all
      · split at h <;> cases h
    · cases h
  exact List.find?_some (p := fun i => sourceReady s (sourceAt i)) next

theorem beginSlot_laws (k : Nat) : KeepsLaws s (beginSlot k s) := by
  have begun := (KeepsLaws.refl s).setPhase (.contention k true)
  unfold beginSlot
  dsimp only
  split
  · split
    · exact begun
    · rename_i picked
      refine begun.trans ?_
      rename_i p
      cases p with
      | station => exact beginAsk_laws _ .station fun _ atSlot => Source.noConfusion atSlot
      | place i =>
        have ready := pick_ready _ picked
        refine ((KeepsLaws.refl _).setLau _).trans (beginAsk_laws _ _ fun j atSlot => ?_)
        rw [atSlot] at ready
        simp only [sourceReady, Bool.and_eq_true, beq_iff_eq] at ready
        exact ready.1.1
  · exact begun

theorem answerInGap_laws : KeepsLaws s (answerInGap s) := by
  have same := KeepsLaws.refl s
  unfold answerInGap
  split
  · split
    · exact same.setLau _
    · exact same.setAnswer none
  · exact same.setAnswer none

theorem closeGap_laws : KeepsLaws s (closeGap s) := by
  unfold closeGap
  split
  · exact (((KeepsLaws.refl s).setPhase _).setAnswer _).trans (resolveAsk_laws _ _)
  · exact KeepsLaws.refl s

theorem broadcastSent_laws (k : FrameKind) : KeepsLaws s (broadcastSent k s) := by
  unfold broadcastSent
  split
  · refine .trans (.trans (.setStation ?_ _) (enterMode_laws _ _)) (restartPresence_laws _)
    exact setPeer_laws s _ _ fun law => law s.station.number
  · exact enterWithdrawn_laws s
  · exact restartPresence_laws s

theorem askSent_laws (f : Frame) : KeepsLaws s (askSent f s) := by
  have sent := (KeepsLaws.refl s).setL f.src false
  unfold askSent
  dsimp only
  split
  · exact ((sent.setPhase _).setAsk _).trans (broadcastSent_laws _ _)
  · exact (sent.setPhase _).trans (restartPresence_laws _)

theorem endTransmission_laws : KeepsLaws s (endTransmission s) := by
  have free := ((KeepsLaws.refl s).setLau { s.lau with clash := 0 }).setLineActive false
  unfold endTransmission
  dsimp only
  split
  · split
    · exact KeepsLaws.refl s
    · refine .trans ?_ (applyWithdrawal_laws _)
      split
      · exact (free.setL _ _).setPhase _
      · exact free.trans (askSent_laws _ _)
  · exact KeepsLaws.refl s

theorem countClash_laws : KeepsLaws s (countClash s) := by
  have counted := (KeepsLaws.refl s).setLau { s.lau with clash := min (s.lau.clash + 1) 3 }
  unfold countClash
  dsimp only
  split
  · exact counted.trans (reportClash_laws _)
  · exact counted

theorem collide_laws : KeepsLaws s (collide s) := by
  unfold collide
  dsimp only
  split
  · rename_i x _
    have ended := (((KeepsLaws.refl s).setPhase (.transmitting { x with jam := true })).setL 31 true).trans
      (resolveAsk_laws _ .collided)
    split
    · exact KeepsLaws.refl s
    · split
      · exact ended.trans (countClash_laws _)
      · exact ended
  · exact KeepsLaws.refl s

theorem endJam_laws (active : Bool) : KeepsLaws s (endJam active s) := by
  unfold endJam
  split
  · split
    · exact (((KeepsLaws.refl s).setPhase _).setLineActive _).trans (applyWithdrawal_laws _)
    · exact KeepsLaws.refl s
  · exact KeepsLaws.refl s

/-! ### Arrivals -/

theorem deliver_laws (f : Frame) (act : State → Answer × State) (acts : KeepsLaws s (act s).2) :
    KeepsLaws s (deliver f act s) := by
  unfold deliver
  split
  · exact acts.setAnswer _
  · exact KeepsLaws.refl s

theorem requestOwner_laws (f : Frame) (q : RequestBody) (other : f.src ≠ s.station.number) :
    KeepsLaws s (requestOwner f q s) :=
  (refreshPeer_laws s _ other).trans (deliver_laws _ f _ (takeRequest_laws _ _ _ q))

theorem dataOwner_laws (f : Frame) (other : f.src ≠ s.station.number) : KeepsLaws s (dataOwner f s) := by
  have heard := refreshPeer_laws s _ other
  unfold dataOwner
  split
  · refine heard.trans (deliver_laws _ f _ ?_)
    split
    · exact KeepsLaws.refl _
    · exact takeChannelData_laws _ _ _ _ _
  · exact heard.trans (deliver_laws _ f _ (byIdentity_laws _ _ _ _ fun k => dataToContext_laws _ k _ _))

theorem closeOwner_laws (f : Frame) (other : f.src ≠ s.station.number) : KeepsLaws s (closeOwner f s) :=
  (refreshPeer_laws s _ other).trans
    (deliver_laws _ f _ (byIdentity_laws _ _ _ _ fun k => closeToContext_laws _ k))

theorem abortOwner_laws (f : Frame) (other : f.src ≠ s.station.number) : KeepsLaws s (abortOwner f s) :=
  (refreshPeer_laws s _ other).trans
    (deliver_laws _ f _ (byIdentity_laws _ _ _ _ fun k => abortToContext_laws _ k))

theorem answerOwner_laws (f : Frame) (a : Answer) (other : f.src ≠ s.station.number) :
    KeepsLaws s (answerOwner f a s) := by
  have heard := refreshPeer_laws s _ other
  unfold answerOwner
  split
  · exact heard.trans (resolveAsk_laws _ _)
  · exact heard

theorem ownerOf_laws (f : Frame) (other : f.src ≠ s.station.number) : KeepsLaws s (ownerOf f s) := by
  unfold ownerOf
  split
  · exact peerJoined_laws s _ _ other
  · exact peerAnnounced_laws s _ _ other
  · exact peerLeaves_laws s _
  · exact requestOwner_laws s f _ other
  · exact dataOwner_laws s f other
  · exact closeOwner_laws s f other
  · exact abortOwner_laws s f other
  all_goals exact answerOwner_laws s f _ other

theorem lauTakesFrame_laws (f : Frame) : KeepsLaws s (lauTakesFrame f s) := by
  have resolved : KeepsLaws s (if s.matchesAsk f then s else resolveAsk .noAnswer s) := by
    split
    · exact KeepsLaws.refl s
    · exact resolveAsk_laws s _
  exact ((resolved.setL _ _).setPhase _).setAnswer _

/-- The arrival of a frame keeps the laws where its owner does, who takes frames of other stations only. -/
theorem arrive_laws (f : Frame) (owner : State → State)
    (owns : ∀ t, f.src ≠ t.station.number → KeepsLaws t (owner t)) : KeepsLaws s (arrive f owner s) := by
  have same := KeepsLaws.refl s
  have buffered := (same.setLineActive false).setRx f.bytes
  unfold arrive
  dsimp only
  split
  · exact same.setLineActive false
  · split
    · exact endCorrupted_laws s _
    · split
      · exact buffered.trans (reportClash_laws _)
      · rename_i other
        have number : (lauTakesFrame f ((s.setLineActive false).setRx f.bytes)).station.number = s.station.number :=
          ((lauTakesFrame_keeps _ _ f).mpr (Keeps.refl ((s.setLineActive false).setRx f.bytes))).number
        exact ((buffered.trans (lauTakesFrame_laws _ f)).trans (owns _ (number ▸ other))).trans
          (checkListening_laws _)

/-! ### Timers -/

theorem listenExpires_laws : KeepsLaws s (listenExpires s) := by
  unfold listenExpires
  split
  · exact ((KeepsLaws.refl s).setStation _).trans (checkListening_laws _)
  · exact KeepsLaws.refl s

theorem peerExpires_laws (p : StationNo) : KeepsLaws s (peerExpires p s) := by
  unfold peerExpires
  split
  · rename_i lapsed
    exact peerGone_laws s p _ lapsed.1
  · exact KeepsLaws.refl s

theorem presenceExpires_laws : KeepsLaws s (presenceExpires s) := by
  unfold presenceExpires
  split
  · exact ((KeepsLaws.refl s).setPresenceTimer _).setStation _
  · exact KeepsLaws.refl s

theorem channelPauseExpires_laws (c : ChannelNo) : KeepsLaws s (channelPauseExpires c s) := by
  unfold channelPauseExpires
  split
  · exact setChannel_laws_of_same s c _
  · exact KeepsLaws.refl s

theorem dataWaitExpires_laws (c : ChannelNo) : KeepsLaws s (dataWaitExpires c s) := by
  unfold dataWaitExpires
  split
  · rename_i waited
    have marked := setChannel_laws_of_same s c { s.channel c with timeoutMark := true }
    refine marked.trans (enterClose_laws _ c ?_)
    rw [State.setChannel_channel_same, waited.2]
    rfl
  · exact KeepsLaws.refl s

theorem deadlineExpires_laws (c : ChannelNo) : KeepsLaws s (deadlineExpires c s) := by
  unfold deadlineExpires
  split
  · have stopped := setChannel_laws_of_same s c { s.channel c with deadlineTimer := none }
    exact stopped.trans (giveUp_laws _ c nofun)
  · exact KeepsLaws.refl s

theorem contextPauseExpires_laws (k : SlotNo) : KeepsLaws s (contextPauseExpires k s) := by
  unfold contextPauseExpires
  split
  · exact setContext_laws_of_same s k _
  · exact KeepsLaws.refl s

theorem idleExpires_laws (k : SlotNo) : KeepsLaws s (idleExpires k s) := by
  unfold idleExpires
  split
  · rename_i idle
    exact endContext_laws s k _ idle.2
  · exact KeepsLaws.refl s

theorem lingerExpires_laws (k : SlotNo) : KeepsLaws s (lingerExpires k s) := by
  unfold lingerExpires
  split
  · exact freeContext_laws s k
  · exact KeepsLaws.refl s

/-! ### The host's commands -/

theorem onChannel_laws (act : ChannelNo → State → Reply × State) (acts : ∀ c, KeepsLaws s (act c s).2) :
    KeepsLaws s (onChannel act s).2 := by
  unfold onChannel
  split
  · exact KeepsLaws.refl s
  · exact acts _

theorem joinEffect_laws : KeepsLaws s (joinEffect s).2 := by
  unfold joinEffect
  split
  · exact enterListening_laws s
  · exact KeepsLaws.refl s

theorem withdrawEffect_laws : KeepsLaws s (withdrawEffect s).2 := by
  have same := KeepsLaws.refl s
  have pends : KeepsLaws s (pendWithdrawal s) := same.setStation _
  unfold withdrawEffect
  split
  · show KeepsLaws s (withdrawn s)
    unfold withdrawn
    repeat' split
    · exact withdrawAtOnce_laws s
    · exact withdrawAtOnce_laws s
    · exact pends
    · exact withdrawAtOnce_laws s
    · exact pends
    · exact enterWithdrawing_laws s
    · exact same
  · exact same

theorem restartEffect_laws : KeepsLaws s (restartEffect s).2 := (restartClear_laws s).trans (enterFirstMode_laws _)

theorem startOn_laws (c : ChannelNo) : KeepsLaws s (startOn c s).2 := by
  unfold startOn
  split
  · exact KeepsLaws.refl s
  · have described := setChannel_laws_of_same s c { s.channel c with desc := descriptorOf s.descriptorArg }
    exact described.trans (startChannel_laws _ c)

theorem armOn_laws (c : ChannelNo) : KeepsLaws s (armOn c s).2 := by
  have armed : KeepsLaws s (s.setChannel c ((s.channel c).armedWith (descriptorOf s.descriptorArg))) :=
    setChannel_laws s c _ fun ⟨_, _, _, _, pendNone, pendOk⟩ => ⟨nofun, nofun, fun _ => rfl, nofun, pendNone, pendOk⟩
  unfold armOn
  dsimp only
  repeat' split
  · exact KeepsLaws.refl s
  · exact armed.trans (clearMarks_laws _ c)
  · exact armed

theorem triggerOn_laws (c : ChannelNo) : KeepsLaws s (triggerOn c s).2 := by
  unfold triggerOn
  repeat' split
  · exact KeepsLaws.refl s
  · exact KeepsLaws.refl s
  · exact startChannel_laws s c
  · exact endChannel_laws s c 0 fun _ => nofun

theorem releaseOn_laws (c : ChannelNo) : KeepsLaws s (releaseOn c s).2 := by
  have released : KeepsLaws s (s.setChannel c { s.channel c with state := .idle, condition := .none, detail := 0 }) :=
    setChannel_laws s c _ fun ⟨_, _, _, _, pendNone, pendOk⟩ => ⟨nofun, nofun, fun _ => rfl, nofun, pendNone, pendOk⟩
  unfold releaseOn
  split
  · exact released.trans (clearMarks_laws _ c)
  · exact KeepsLaws.refl s

theorem channelInfoOn_laws (c : ChannelNo) : KeepsLaws s (channelInfoOn c s).2 := by
  unfold channelInfoOn
  repeat' split
  all_goals exact KeepsLaws.refl s

theorem holdOn_laws (c : ChannelNo) : KeepsLaws s (holdOn c s).2 := by
  unfold holdOn
  dsimp only
  repeat' split
  · exact setChannel_laws_of_same s c _
  · exact enterHeld_laws s c _ (ChannelState.ended_of_phase ‹_›)
  · exact KeepsLaws.refl s
  · exact KeepsLaws.refl s

theorem resumeOn_laws (c : ChannelNo) : KeepsLaws s (resumeOn c s).2 := by
  unfold resumeOn
  split
  · rename_i held
    have resumed : KeepsLaws s (s.setChannel c { s.channel c with state := (s.channel c).heldPhase.toState }) :=
      setChannel_laws s c _ fun law => law.of_moved (by rw [held]; rfl)
        (by dsimp only; cases (s.channel c).heldPhase <;> rfl) (by dsimp only; cases (s.channel c).heldPhase <;> nofun)
        rfl rfl
    show KeepsLaws s (resumeChannel c s)
    unfold resumeChannel
    dsimp only
    repeat' split
    · exact resumed
    · exact resumed
    · exact resumed.trans (claimFrame_laws _ c)
    · exact resumed.trans (setChannel_laws_of_same _ c _)
    · exact resumed
  · exact KeepsLaws.refl s

theorem cancelOn_laws (c : ChannelNo) : KeepsLaws s (cancelOn c s).2 := by
  unfold cancelOn
  split
  · exact endChannel_laws s c 0 fun _ => nofun
  · exact giveUp_laws s c nofun

theorem setDeadlineOn_laws (c : ChannelNo) : KeepsLaws s (setDeadlineOn c s).2 := by
  unfold setDeadlineOn
  dsimp only
  repeat' split
  · exact KeepsLaws.refl s
  · exact setChannel_laws_of_same s c _
  · exact setChannel_laws_of_same s c _
  · exact KeepsLaws.refl s

theorem clearDeadlineOn_laws (c : ChannelNo) : KeepsLaws s (clearDeadlineOn c s).2 := by
  unfold clearDeadlineOn
  dsimp only
  repeat' split
  · exact setChannel_laws_of_same s c _
  · exact setChannel_laws_of_same s c _
  · exact KeepsLaws.refl s

theorem mem_allWindows (w : Fin 8) : w ∈ allWindows := by revert w; decide

/-- A window opened where OPEN_WINDOW's checks pass lies in buffer memory, in its place, apart from the OPEN ones
(R77, R78). -/
theorem WindowLaw.setWindow {s : State} {id : Fin 8} {w : Window} (law : WindowLaw s) (passes : openRefusal s id w = none) :
    WindowLaw (s.setWindow id w) := by
  obtain ⟨apart, placed⟩ := law
  obtain ⟨aligned, inside, clear⟩ : w.base % w.size = 0 ∧ w.base + w.size ≤ 65536 ∧
      ∀ v, (s.window v).isOpen = true → (s.window v).apart w := by
    unfold openRefusal at passes
    split at passes
    · cases passes
    · split at passes
      · cases passes
      · split at passes
        · cases passes
        · split at passes
          · cases passes
          · refine ⟨not_not.mp ‹_›, Nat.not_lt.mp ‹_›, fun v opened => ?_⟩
            have noneMet := List.find?_eq_none.mp (Option.map_eq_none_iff.mp passes) v (mem_allWindows v)
            simp only [meetsOpen, opened, Bool.true_and, decide_eq_true_eq] at noneMet
            unfold Window.apart
            omega
  refine ⟨fun u v differ uOpen vOpen => ?_, fun v vOpen => ?_⟩
  · by_cases uId : u = id
    · subst uId
      rw [State.setWindow_window_same, State.setWindow_window_other _ _ _ _ differ.symm]
      rw [State.setWindow_window_other _ _ _ _ differ.symm] at vOpen
      exact (clear v vOpen).symm
    · rw [State.setWindow_window_other _ _ _ _ uId] at uOpen ⊢
      by_cases vId : v = id
      · subst vId
        rw [State.setWindow_window_same]
        exact clear u uOpen
      · rw [State.setWindow_window_other _ _ _ _ vId] at vOpen ⊢
        exact apart u v differ uOpen vOpen
  · by_cases vId : v = id
    · subst vId
      rw [State.setWindow_window_same]
      exact ⟨aligned, inside⟩
    · rw [State.setWindow_window_other _ _ _ _ vId] at vOpen ⊢
      exact placed v vOpen

theorem setWindow_laws (id : Fin 8) (w : Window) (law : WindowLaw s → WindowLaw (s.setWindow id w)) :
    KeepsLaws s (s.setWindow id w) :=
  { memory := MemoryLaw.of_cells rfl
    arrival := ArrivalLaw.of_arrivals rfl
    self := SelfLaw.of_states (fun _ => Iff.rfl) rfl
    condition := ConditionLaw.of_recs rfl
    window := law
    slot := SlotLaw.of_slots rfl rfl
    pending := rfl
    freeCount := rfl }

/-- A window's entry rewritten, and not opened or moved. -/
theorem setWindow_laws_of_same (id : Fin 8) (w : Window) (opened : w.isOpen = true → (s.window id).isOpen = true)
    (base : w.base = (s.window id).base) (size : w.sizeCode = (s.window id).sizeCode) :
    KeepsLaws s (s.setWindow id w) :=
  setWindow_laws s id w fun law => law.of_openWindows fun v vOpen => by
    by_cases same : v = id
    · subst same
      rw [State.setWindow_window_same] at vOpen ⊢
      exact ⟨opened vOpen, base, size⟩
    · rw [State.setWindow_window_other _ _ _ _ same] at vOpen ⊢
      exact ⟨vOpen, rfl, rfl⟩

theorem openWindowEffect_laws : KeepsLaws s (openWindowEffect s).2 := by
  unfold openWindowEffect
  dsimp only
  split
  · exact KeepsLaws.refl s
  · split
    · exact KeepsLaws.refl s
    · split
      · exact KeepsLaws.refl s
      · split
        · exact KeepsLaws.refl s
        · rename_i passes
          exact setWindow_laws s _ _ fun law => law.setWindow passes

theorem closeWindow_laws (w : Fin 8) : KeepsLaws s (closeWindow w s) := by
  unfold closeWindow
  exact (setWindow_laws_of_same s w { s.window w with isOpen := false } nofun rfl rfl).trans
    (contextsWindowClosed_laws _ w)

theorem closeWindowEffect_laws : KeepsLaws s (closeWindowEffect s).2 := by
  unfold closeWindowEffect
  split
  · exact KeepsLaws.refl s
  · rename_i w _
    split
    · dsimp only
      exact closeWindow_laws s w
    · exact KeepsLaws.refl s

theorem setValidEffect_laws : KeepsLaws s (setValidEffect s).2 := by
  unfold setValidEffect
  repeat' split
  · exact KeepsLaws.refl s
  · exact KeepsLaws.refl s
  · exact KeepsLaws.refl s
  · exact setWindow_laws_of_same s _ _ id rfl rfl

theorem dropContextEffect_laws : KeepsLaws s (dropContextEffect s).2 := by
  unfold dropContextEffect
  split
  · exact KeepsLaws.refl s
  · unfold dropOn
    dsimp only
    split
    · exact KeepsLaws.refl s
    · exact freeContext_laws s _
    · exact endContext_laws s _ .hostDropped (ContextState.active_of_ne ‹_› ‹_›)

/-- The oldest record taken: OVERFLOW clears with the last (R179). -/
theorem takeArrivalEffect_laws : KeepsLaws s (takeArrivalEffect s).2 := by
  unfold takeArrivalEffect
  split
  · exact KeepsLaws.refl s
  · rename_i r rest waiting
    exact
      { memory := MemoryLaw.of_cells rfl
        arrival := fun ⟨short, _⟩ => by
          rw [waiting, List.length_cons] at short
          exact ⟨Nat.le_of_succ_le short, fun overflows empty => by
            simp only [State.setArrivals_arrivals, ArrivalQueue.left] at overflows empty
            simp [empty] at overflows⟩
        self := SelfLaw.of_states (fun _ => Iff.rfl) rfl
        condition := ConditionLaw.of_recs rfl
        window := WindowLaw.of_windows rfl
        slot := SlotLaw.of_slots rfl rfl
        pending := rfl
        freeCount := rfl }

theorem stationInfoEffect_laws : KeepsLaws s (stationInfoEffect s).2 := KeepsLaws.refl s

theorem peerInfoEffect_laws : KeepsLaws s (peerInfoEffect s).2 := by
  unfold peerInfoEffect
  split <;> exact KeepsLaws.refl s

theorem windowInfoEffect_laws : KeepsLaws s (windowInfoEffect s).2 := by
  unfold windowInfoEffect
  split <;> exact KeepsLaws.refl s

theorem contextInfoEffect_laws : KeepsLaws s (contextInfoEffect s).2 := by
  unfold contextInfoEffect
  repeat' split
  all_goals exact KeepsLaws.refl s

/-- Whatever command the COMMAND area holds. -/
theorem commandEffect_laws : KeepsLaws s (commandEffect s).2 := by
  unfold commandEffect
  split
  · exact joinEffect_laws s
  · exact withdrawEffect_laws s
  · exact restartEffect_laws s
  · exact stationInfoEffect_laws s
  · exact peerInfoEffect_laws s
  · exact openWindowEffect_laws s
  · exact closeWindowEffect_laws s
  · exact setValidEffect_laws s
  · exact windowInfoEffect_laws s
  · exact onChannel_laws s _ (startOn_laws s)
  · exact onChannel_laws s _ (armOn_laws s)
  · exact onChannel_laws s _ (triggerOn_laws s)
  · exact onChannel_laws s _ (holdOn_laws s)
  · exact onChannel_laws s _ (resumeOn_laws s)
  · exact onChannel_laws s _ (cancelOn_laws s)
  · exact onChannel_laws s _ (setDeadlineOn_laws s)
  · exact onChannel_laws s _ (clearDeadlineOn_laws s)
  · exact onChannel_laws s _ (channelInfoOn_laws s)
  · exact onChannel_laws s _ (releaseOn_laws s)
  · exact contextInfoEffect_laws s
  · exact dropContextEffect_laws s
  · exact takeArrivalEffect_laws s
  · exact KeepsLaws.refl s

/-! ### The host port -/

theorem riseCsN_laws : KeepsLaws s (riseCsN s) := by
  have ended : KeepsLaws s (endTransaction s) := (KeepsLaws.refl s).setPort _
  unfold riseCsN
  dsimp only
  split
  · exact (ended.trans (commandEffect_laws _)).setPort _
  · exact ended

theorem hostCommand_laws (code tag : Byte) (params : List (Fin 16 × Byte)) (effect : State → Reply × State)
    (keeps : ∀ t, KeepsLaws t (effect t).2) : KeepsLaws s (hostCommand code tag params effect s) := by
  unfold hostCommand
  dsimp only
  split
  · exact KeepsLaws.refl s
  · have written : KeepsLaws s (commandWritten code tag params (riseCsN s)) :=
      ((riseCsN_laws s).setPort { (riseCsN s).port with
        command := putBytes ([(0, code), (1, tag)] ++ params) (riseCsN s).port.command }).setPort _
    split
    · exact (written.trans (keeps _)).setPort _
    · exact written

theorem openingByte_laws (b : Byte) : KeepsLaws s (openingByte b s) := by
  unfold openingByte
  split
  · exact (KeepsLaws.refl s).setPort _
  · exact KeepsLaws.refl s

theorem openTransaction_laws (code : Byte) (address : Word) : KeepsLaws s (openTransaction code address s) :=
  (((KeepsLaws.refl s).setPort { s.port with spi := some { kind := .opening [], address := 0 }, so := some 0 }).trans
    (openingByte_laws _ _)).trans ((openingByte_laws _ _).trans (openingByte_laws _ _))

/-- The state in which a data byte is received. -/
theorem atDataByte_laws {code : Byte} {first : Option Word} {u : State} (received : atDataByte code first s = some u) :
    KeepsLaws s u := by
  unfold atDataByte at received
  split at received
  · cases received
  · split at received
    · cases received
    · cases received; exact openTransaction_laws s _ _
    · split at received <;> cases received
      exact KeepsLaws.refl s
    · split at received <;> cases received
      exact (riseCsN_laws s).trans (openTransaction_laws _ _ _)

/-- A data byte received, with an effect on the port alone, or none. -/
theorem dataByte_laws (code : Byte) (first : Option Word) (effect : State → State)
    (keeps : ∀ u, KeepsLaws u (effect u)) :
    KeepsLaws s (((atDataByte code first s).map effect).getD s) := by
  cases received : atDataByte code first s with
  | none => exact KeepsLaws.refl s
  | some u => exact (atDataByte_laws s received).trans (keeps u)

theorem registerByte_laws (address : Word) (effect : State → State) (keeps : ∀ u, KeepsLaws u (effect u)) :
    KeepsLaws s (registerByte address effect s) :=
  dataByte_laws s _ _ _ fun u => ((KeepsLaws.refl u).setPort _).trans (keeps _)

theorem writeNotice_laws (low : Bool) (v : Byte) : KeepsLaws s (writeNotice low v s) := by
  unfold writeNotice
  split
  · exact (KeepsLaws.refl s).setNotices _
  · exact KeepsLaws.refl s

theorem writeMask_laws (low : Bool) (v : Byte) : KeepsLaws s (writeMask low v s) := by
  unfold writeMask
  split
  · exact (KeepsLaws.refl s).setPort _
  · exact KeepsLaws.refl s

theorem writeEnded_laws (v : Byte) : KeepsLaws s (writeEnded v s) := (KeepsLaws.refl s).setPort _
theorem writeProgress_laws (v : Byte) : KeepsLaws s (writeProgress v s) := (KeepsLaws.refl s).setPort _

theorem writeGo_laws : KeepsLaws s (writeGo s) := by
  unfold writeGo
  split
  · exact (KeepsLaws.refl s).setPort _
  · exact KeepsLaws.refl s

theorem writeRegister_laws (address : Nat) (v : Byte) : KeepsLaws s (writeRegister address v s) := by
  unfold writeRegister
  split
  · exact (KeepsLaws.refl s).setPort _
  · split
    · exact writeNotice_laws s _ _
    · exact writeMask_laws s _ _
    · exact writeEnded_laws s _
    · exact writeProgress_laws s _
    · exact writeGo_laws s
    · exact KeepsLaws.refl s

theorem instructionByte_laws (code : Byte) : KeepsLaws s (instructionByte code s) := by
  have opens (t : State) : KeepsLaws t (openingByte code (fallCsN t)) :=
    ((KeepsLaws.refl t).setPort _).trans (openingByte_laws _ _)
  unfold instructionByte
  split
  · exact KeepsLaws.refl s
  · split
    · exact opens s
    · split
      · exact KeepsLaws.refl s
      · exact (riseCsN_laws s).trans (opens _)

theorem readMemoryByte_laws : KeepsLaws s (readMemoryByte s) := by
  unfold readMemoryByte
  split
  · exact (KeepsLaws.refl s).setPort _
  · exact (KeepsLaws.refl s).setPort _

end

/-! ### Every row -/

/-- Every row answers a next state, and keeps the laws, the queue and the counter of free values. -/
theorem exec_laws (i : Instr) (s : State) : ∃ t, exec i s = .next t ∧ KeepsLaws s t := by
  cases i with
  | resetAssert => exact ⟨_, rfl, fullReset_laws s _ _ _⟩
  | resetRelease sn rate => exact ⟨_, rfl, fullReset_laws s _ _ _⟩
  | memoryClearDone => exact ⟨_, rfl, endClearing_laws s⟩
  | configReadDone r => exact ⟨_, rfl, endRead_laws s _⟩
  | cfgClockTimeout => exact ⟨_, rfl, endRead_laws s _⟩
  | join tag => exact ⟨_, rfl, hostCommand_laws s _ _ _ _ joinEffect_laws⟩
  | withdraw tag => exact ⟨_, rfl, hostCommand_laws s _ _ _ _ withdrawEffect_laws⟩
  | restart tag => exact ⟨_, rfl, hostCommand_laws s _ _ _ _ restartEffect_laws⟩
  | stationInfo tag => exact ⟨_, rfl, hostCommand_laws s _ _ _ _ stationInfoEffect_laws⟩
  | peerInfo tag station => exact ⟨_, rfl, hostCommand_laws s _ _ _ _ peerInfoEffect_laws⟩
  | openWindow tag id sizeCode access base mask valid =>
    exact ⟨_, rfl, hostCommand_laws s _ _ _ _ openWindowEffect_laws⟩
  | closeWindow tag id => exact ⟨_, rfl, hostCommand_laws s _ _ _ _ closeWindowEffect_laws⟩
  | setValid tag id length => exact ⟨_, rfl, hostCommand_laws s _ _ _ _ setValidEffect_laws⟩
  | windowInfo tag id => exact ⟨_, rfl, hostCommand_laws s _ _ _ _ windowInfoEffect_laws⟩
  | start tag ch d => exact ⟨_, rfl, hostCommand_laws s _ _ _ _ fun t => onChannel_laws t _ (startOn_laws t)⟩
  | arm tag ch d => exact ⟨_, rfl, hostCommand_laws s _ _ _ _ fun t => onChannel_laws t _ (armOn_laws t)⟩
  | trigger tag ch => exact ⟨_, rfl, hostCommand_laws s _ _ _ _ fun t => onChannel_laws t _ (triggerOn_laws t)⟩
  | hold tag ch => exact ⟨_, rfl, hostCommand_laws s _ _ _ _ fun t => onChannel_laws t _ (holdOn_laws t)⟩
  | resume tag ch => exact ⟨_, rfl, hostCommand_laws s _ _ _ _ fun t => onChannel_laws t _ (resumeOn_laws t)⟩
  | cancel tag ch => exact ⟨_, rfl, hostCommand_laws s _ _ _ _ fun t => onChannel_laws t _ (cancelOn_laws t)⟩
  | setDeadline tag ch ms =>
    exact ⟨_, rfl, hostCommand_laws s _ _ _ _ fun t => onChannel_laws t _ (setDeadlineOn_laws t)⟩
  | clearDeadline tag ch =>
    exact ⟨_, rfl, hostCommand_laws s _ _ _ _ fun t => onChannel_laws t _ (clearDeadlineOn_laws t)⟩
  | channelInfo tag ch part =>
    exact ⟨_, rfl, hostCommand_laws s _ _ _ _ fun t => onChannel_laws t _ (channelInfoOn_laws t)⟩
  | release tag ch => exact ⟨_, rfl, hostCommand_laws s _ _ _ _ fun t => onChannel_laws t _ (releaseOn_laws t)⟩
  | contextInfo tag slot part => exact ⟨_, rfl, hostCommand_laws s _ _ _ _ contextInfoEffect_laws⟩
  | dropContext tag slot => exact ⟨_, rfl, hostCommand_laws s _ _ _ _ dropContextEffect_laws⟩
  | takeArrival tag => exact ⟨_, rfl, hostCommand_laws s _ _ _ _ takeArrivalEffect_laws⟩
  | badCommand tag code => exact ⟨_, rfl, hostCommand_laws s _ _ _ _ commandEffect_laws⟩
  | noticeWrite low value => exact ⟨_, rfl, registerByte_laws s _ _ fun u => writeNotice_laws u _ _⟩
  | noticeMaskWrite low value => exact ⟨_, rfl, registerByte_laws s _ _ fun u => writeMask_laws u _ _⟩
  | channelEndedWrite value => exact ⟨_, rfl, registerByte_laws s _ _ fun u => writeEnded_laws u _⟩
  | channelProgressWrite value => exact ⟨_, rfl, registerByte_laws s _ _ fun u => writeProgress_laws u _⟩
  | registerWrite address value => exact ⟨_, rfl, registerByte_laws s _ _ fun u => writeRegister_laws u _ _⟩
  | badInstruction code => exact ⟨_, rfl, instructionByte_laws s _⟩
  | memoryWriteByte first value => exact ⟨_, rfl, dataByte_laws s _ _ _ fun u => (KeepsLaws.refl u).setPort _⟩
  | memoryReadByte first => exact ⟨_, rfl, dataByte_laws s _ _ _ readMemoryByte_laws⟩
  | hostClaimServed => exact ⟨_, rfl, serveInTurn_laws s _⟩
  | channelReadClaimServed => exact ⟨_, rfl, serveInTurn_laws s _⟩
  | contextReadClaimServed => exact ⟨_, rfl, serveInTurn_laws s _⟩
  | activityStart => exact ⟨_, rfl, beginActivity_laws s⟩
  | unseenActivityEnd => exact ⟨_, rfl, endUnseen_laws s⟩
  | corruptedFrame a =>
    refine ⟨_, rfl, ?_⟩
    split
    · exact arrive_laws s _ _ fun t => ownerOf_laws t _
    · exact endCorrupted_laws s _
    · exact endCorrupted_laws s _
  | joinFrameReceived src p => exact ⟨_, rfl, arrive_laws s _ _ fun t => peerJoined_laws t _ _⟩
  | presenceReceived src p => exact ⟨_, rfl, arrive_laws s _ _ fun t => peerAnnounced_laws t _ _⟩
  | leaveReceived src => exact ⟨_, rfl, arrive_laws s _ _ fun t _ => peerLeaves_laws t _⟩
  | requestReceived src dst xch q => exact ⟨_, rfl, arrive_laws s _ _ fun t => requestOwner_laws t _ _⟩
  | dataReceived src dst xch tgl payload => exact ⟨_, rfl, arrive_laws s _ _ fun t => dataOwner_laws t _⟩
  | channelDataReceived src xch tgl payload => exact ⟨_, rfl, arrive_laws s _ _ fun t => dataOwner_laws t _⟩
  | closeReceived src dst xch => exact ⟨_, rfl, arrive_laws s _ _ fun t => closeOwner_laws t _⟩
  | abortReceived src dst xch => exact ⟨_, rfl, arrive_laws s _ _ fun t => abortOwner_laws t _⟩
  | answerReceived src dst xch dir a => exact ⟨_, rfl, arrive_laws s _ _ fun t => answerOwner_laws t _ _⟩
  | replyGapAnswer => exact ⟨_, rfl, answerInGap_laws s⟩
  | replyGapClose => exact ⟨_, rfl, closeGap_laws s⟩
  | settleGapEnd =>
    refine ⟨_, rfl, ?_⟩
    split
    · exact (KeepsLaws.refl s).setPhase _
    · exact KeepsLaws.refl s
  | slotStart =>
    refine ⟨_, rfl, ?_⟩
    split
    · exact beginSlot_laws s _
    · exact KeepsLaws.refl s
  | silentRound =>
    refine ⟨_, rfl, ?_⟩
    split
    · exact (((KeepsLaws.refl s).setL _ _).setPhase _).trans (checkListening_laws _)
    · exact KeepsLaws.refl s
  | transmissionEnd => exact ⟨_, rfl, endTransmission_laws s⟩
  | collision => exact ⟨_, rfl, collide_laws s⟩
  | jamEnd active => exact ⟨_, rfl, endJam_laws s active⟩
  | clashCountLimit =>
    refine ⟨_, rfl, ?_⟩
    repeat' split
    · exact reportClash_laws s
    · exact collide_laws s
    · exact KeepsLaws.refl s
  | retryExhausted ch =>
    refine ⟨_, rfl, ?_⟩
    repeat' split
    · exact closeGap_laws s
    · exact endExhausted_laws s ch
    · exact KeepsLaws.refl s
  | contextRetryExhausted slot =>
    refine ⟨_, rfl, ?_⟩
    split
    · exact closeGap_laws s
    · split
      · rename_i _ exhausted
        exact endContext_laws s slot _ (by rw [exhausted.2.1]; rfl)
      · exact KeepsLaws.refl s
  | listenTimerExpiry => exact ⟨_, rfl, listenExpires_laws s⟩
  | peerExpiry peer => exact ⟨_, rfl, peerExpires_laws s peer⟩
  | presenceTimerExpiry => exact ⟨_, rfl, presenceExpires_laws s⟩
  | channelPauseExpiry ch => exact ⟨_, rfl, channelPauseExpires_laws s ch⟩
  | dataWaitExpiry ch => exact ⟨_, rfl, dataWaitExpires_laws s ch⟩
  | deadlineExpiry ch => exact ⟨_, rfl, deadlineExpires_laws s ch⟩
  | contextPauseExpiry slot => exact ⟨_, rfl, contextPauseExpires_laws s slot⟩
  | idleTimerExpiry slot => exact ⟨_, rfl, idleExpires_laws s slot⟩
  | lingerExpiry slot => exact ⟨_, rfl, lingerExpires_laws s slot⟩
  | goWrite value => exact ⟨_, rfl, registerByte_laws s _ _ writeGo_laws⟩
  | csNRise =>
    refine ⟨_, rfl, ?_⟩
    split
    · exact KeepsLaws.refl s
    · exact riseCsN_laws s
  | dir1DataForAnotherStation src dst xch tgl payload =>
    exact ⟨_, rfl, arrive_laws s _ _ fun t => dataOwner_laws t _⟩

/-! ### The tick -/

/-- The tick counts timers and queues events; but for the queue and the counter it keeps what a row keeps. -/
theorem tick_laws (s : State) :
    KeepsLaws { s with pending := (tick s).pending, freeCount := (tick s).freeCount } (tick s) := by
  unfold tick
  split
  · exact KeepsLaws.refl s
  · have entry (p : StationNo) : (countTimers s).peer p = { s.peer p with expiry := countDown (s.peer p).expiry } := by
      simp [countTimers, State.peer]
    have record (c : ChannelNo) : (countTimers s).channel c = (s.channel c).counted := by
      simp [countTimers, State.channel]
    have slot (k : SlotNo) : (countTimers s).context k = (s.context k).counted := by
      simp [countTimers, State.context]
    exact
      { memory := MemoryLaw.of_cells rfl
        arrival := ArrivalLaw.of_arrivals rfl
        self := SelfLaw.of_states (fun p => by
          show ((countTimers s).peer p).state = .self ↔ _
          rw [entry]; rfl) rfl
        condition := fun law c => by
          show ((countTimers s).channel c).conditionLaw
          rw [record]
          exact (law c).of_same rfl rfl rfl rfl
        window := WindowLaw.of_windows rfl
        slot := fun law =>
          { identity := fun j k => by
              show ((countTimers s).context j).state ≠ .free → ((countTimers s).context k).state ≠ .free →
                ((countTimers s).context j).initiator = ((countTimers s).context k).initiator →
                ((countTimers s).context j).xch = ((countTimers s).context k).xch → j = k
              rw [slot, slot]
              exact law.identity j k
            asking := fun k => by
              show ((countTimers s).context k).askInFlight = true → ((countTimers s).context k).state = .sending
              rw [slot]
              exact law.asking k
            once := law.once
            lingering := fun k => by
              show k ∈ (countTimers s).ctxs.linger ↔ ((countTimers s).context k).state = .lingering
              rw [slot]
              exact law.lingering k }
        pending := rfl
        freeCount := rfl }

/-! ### Every step -/

/-- A step runs a row on the state with another queue, or is the tick; it keeps the laws, none of which speaks of the
queue or of the counter. -/
theorem step_laws {s t : State} (steps : step s = .next t) :
    ∃ (queue : List Instr) (count : Nat), KeepsLaws { s with pending := queue, freeCount := count } t := by
  unfold step at steps
  split at steps
  · rename_i i rest _
    obtain ⟨u, runs, keeps⟩ := exec_laws i { s with pending := rest }
    cases runs.symm.trans steps
    exact ⟨rest, s.freeCount, keeps⟩
  · cases steps
    exact ⟨_, _, tick_laws s⟩

/-- Settles O54, from what every step keeps. -/
theorem memoryLawKept : Obligations.MemoryLawKept := fun _ _ law steps =>
  have ⟨_, _, keeps⟩ := step_laws steps
  keeps.memory law

/-- Settles O55, from what every step keeps. -/
theorem arrivalLawKept : Obligations.ArrivalLawKept := fun _ _ law steps =>
  have ⟨_, _, keeps⟩ := step_laws steps
  keeps.arrival law

/-- Settles O56, from what every step keeps. -/
theorem selfLawKept : Obligations.SelfLawKept := fun _ _ law steps =>
  have ⟨_, _, keeps⟩ := step_laws steps
  keeps.self law

/-- Settles O57, from what every step keeps. -/
theorem conditionLawKept : Obligations.ConditionLawKept := fun _ _ law steps =>
  have ⟨_, _, keeps⟩ := step_laws steps
  keeps.condition law

/-- Settles O58, from what every step keeps. -/
theorem windowLawKept : Obligations.WindowLawKept := fun _ _ law steps =>
  have ⟨_, _, keeps⟩ := step_laws steps
  keeps.window law

/-- Settles O59, from what every step keeps: the one identity by what a REQUEST's match empties, the asks by what the
scheduler picks, the linger order by what each end and each freeing does to it. -/
theorem slotLawKept : Obligations.SlotLawKept := fun _ _ law steps =>
  have ⟨_, _, keeps⟩ := step_laws steps
  keeps.slot { law with }

/-- Settles O60: the reset state is a full reset of itself, and a full reset meets each law whatever came before; its
memory lists nothing. -/
theorem lawsAtReset : Obligations.LawsAtReset :=
  ⟨reset_memory_wf, ⟨Nat.zero_le _, nofun⟩, SelfLaw.of_cleared rfl rfl, ConditionLaw.of_reset rfl, WindowLaw.of_reset rfl,
    SlotLaw.of_reset rfl rfl⟩

/-- Settles O3: what every row answers and keeps, of which the queue and the counter are a part. -/
theorem commandsCompleteAndKeepTheQueue : Obligations.CommandsCompleteAndKeepTheQueue := fun i s =>
  have ⟨t, runs, keeps⟩ := exec_laws i s
  ⟨t, runs, keeps.pending, keeps.freeCount⟩

/-- Settles O1: a queue with a front is the first case of the step. -/
theorem stepRunsFrontCommand : Obligations.StepRunsFrontCommand := fun s c rest queue => by
  simp only [step, queue]

end Sys2Proof.Machine

/-! PROOFS. Reset and LOADING (R43 to R47, R170), and the start of activity and of a round (R5, R7, R10, R35). -/

namespace Sys2Proof.Machine

/-! ### Full reset -/

/-- A full reset gives every block the values of R4, R42, R60, R76, R93, R142, R173, R177 and R196. -/
theorem fullReset_full (sn : StationNo) (rate : Fin 4) (held : Bool) (s : State) :
    FullReset sn rate held s (fullReset sn rate held s) :=
  { pins := rfl, lau := rfl, rx := rfl, station := rfl
    peers := fun p => by
      have entry : (fullReset sn rate held s).peer p = if p = sn then Peer.ofSelf 0 else Peer.cleared := by
        simp only [State.peer, fullReset, PeerTable.cleared, Vector.getElem_ofFn]
      rw [entry]
      split <;> rfl
    presence := rfl
    windows := fun w => by simp only [State.window, fullReset, State.reset, Vector.getElem_replicate, Window.reset]
    channels := fun c => by
      simp only [State.channel, fullReset, State.reset, ChannelEngine.reset, Vector.getElem_replicate]
      rfl
    channelClaims := rfl
    contexts := fun k => by
      simp only [State.context, fullReset, State.reset, ResponderEngine.reset, Vector.getElem_replicate]
      rfl
    linger := rfl, contextClaims := rfl, memory := rfl, arrivals := rfl, notices := rfl, mask := rfl, ended := rfl
    progress := rfl, command := rfl, result := rfl, busy := rfl, due := rfl, transaction := ⟨rfl, rfl, rfl, rfl⟩
    queue := ⟨rfl, rfl⟩ }

/-- Settles O4: both rows are a full reset, and the state after reset is one of itself. -/
theorem fullResetValues : Obligations.FullResetValues :=
  ⟨fun s => ⟨_, rfl, fullReset_full _ _ true s⟩, fun s sn rate => ⟨_, rfl, fullReset_full sn rate false s⟩,
    fullReset_full 0 0 false State.reset, rfl⟩

/-! ### The tasks of LOADING -/

section
variable {s : State}

/-- The state in which LOADING leaves: the values and the source loaded, BUSY clear, CONFIG raised for a bad load (R47). -/
def loaded (conf : ConfigValues) (source : ConfigSource) (s : State) : State :=
  (s.setStation { s.station with conf := conf, confSource := source }).setPort { s.port with
    busy := false,
    notices := { s.port.notices with
      config := s.port.notices.config || source == .partially || source == .badImage } }

theorem endLoading_loaded {conf : ConfigValues} {source : ConfigSource} (read : s.station.readDone = some (conf, source))
    (cleared : s.station.clearDone = true) : endLoading s = enterFirstMode (loaded conf source s) := by
  unfold endLoading
  split
  · rename_i found
    cases read.symm.trans found
    exact if_pos cleared
  · rename_i none
    cases read.symm.trans none

/-- With both tasks ended LOADING ends with what the read gave (R47). -/
theorem endLoading_ends {conf : ConfigValues} {source : ConfigSource} (read : s.station.readDone = some (conf, source))
    (cleared : s.station.clearDone = true) : LoadingEnds conf source s (endLoading s) := by
  rw [endLoading_loaded read cleared]
  have asks : (loaded conf source s).station.conf.autoJoin = conf.autoJoin := rfl
  unfold enterFirstMode
  cases auto : conf.autoJoin <;> rw [asks, auto] <;> exact
    { station := by rw [auto]; rfl, lau := by rw [auto]; rfl, port := rfl, rest := rfl }

/-- With a task left LOADING goes on (R47). -/
theorem endLoading_waits (waits : s.station.readDone = none ∨ s.station.clearDone = false) : endLoading s = s := by
  unfold endLoading
  split
  · rename_i read
    rcases waits with none | running
    · rw [none] at read; cases read
    · rw [running]; rfl
  · rfl

theorem isLoading_of (high : s.pins.resetHeld = false) (loading : s.station.mode = .loading) : s.isLoading = true := by
  simp [State.isLoading, high, loading]

section
variable (high : s.pins.resetHeld = false) (loading : s.station.mode = .loading)
include high loading

theorem endRead_loading (reading : s.station.readDone = none) (r : ConfigValues × ConfigSource) :
    endRead r s = endLoading (s.setStation { s.station with readDone := some r }) :=
  if_pos ⟨isLoading_of high loading, reading⟩

/-- While the clearing runs, what the read gave is recorded (R46, R47). -/
theorem endRead_recorded (reading : s.station.readDone = none) (clearing : s.station.clearDone = false)
    (r : ConfigValues × ConfigSource) : endRead r s = s.setStation { s.station with readDone := some r } := by
  rw [endRead_loading high loading reading]
  exact endLoading_waits (.inr clearing)

theorem endClearing_loading (clearing : s.station.clearDone = false) :
    endClearing s = endLoading ((s.setStation { s.station with clearDone := true }).setCells []) :=
  if_pos ⟨isLoading_of high loading, clearing⟩

end

end

/-- Settles O5: the task that ends first leaves the other to wait for, and the later one ends LOADING. -/
theorem loadingTasks : Obligations.LoadingTasks := by
  intro s high loading
  refine ⟨?clearing, ?reading⟩
  case clearing =>
    rintro running _ rfl
    have row : exec .memoryClearDone s = .next (endClearing s) := rfl
    rw [row, endClearing_loading high loading running]
    exact ⟨fun _ => rfl, fun waits => congrArg Host.Outcome.next (endLoading_waits (.inl waits)),
      fun conf source read => ⟨_, rfl, endLoading_ends read rfl⟩⟩
  case reading =>
    intro waits i r rows
    have row : exec i s = .next (endRead r s) := by
      rcases rows with ⟨rfl, rfl⟩ | ⟨rfl | rfl | rfl, rfl⟩ | ⟨bytes, rfl, rfl⟩ <;> rfl
    rw [row]
    refine ⟨fun running => congrArg Host.Outcome.next (endRead_recorded high loading waits running r), fun cleared => ?_⟩
    rw [endRead_loading high loading waits]
    exact ⟨_, rfl, endLoading_ends rfl cleared⟩

/-! ### The configuration image -/

/-- The pairs of an image, as the Reader applies them (R46). -/
def readPairs (pairs : List (Byte × Byte)) : ConfigValues × Bool :=
  pairs.foldl (fun acc p => applyPair acc p.1 p.2) (ConfigValues.default, false)

theorem applyPairs_flatMap (pairs : List (Byte × Byte)) (acc : ConfigValues × Bool) :
    applyPairs acc (pairs.flatMap fun p => [p.1, p.2]) = pairs.foldl (fun acc p => applyPair acc p.1 p.2) acc := by
  induction pairs generalizing acc with
  | nil => rfl
  | cons p pairs ih => exact ih _

theorem readPairs_snoc (pairs : List (Byte × Byte)) (p : Byte × Byte) :
    readPairs (pairs ++ [p]) = applyPair (readPairs pairs) p.1 p.2 := by
  simp only [readPairs, List.foldl_append, List.foldl_cons, List.foldl_nil]

theorem lastItem_snoc (pairs : List (Byte × Byte)) (p : Byte × Byte) (item low high fallback : Nat) :
    lastItem (pairs ++ [p]) item low high fallback =
      if p.1.toNat = item then (if low ≤ p.2.toNat ∧ p.2.toNat ≤ high then p.2.toNat else fallback)
      else lastItem pairs item low high fallback := by
  unfold lastItem
  by_cases same : p.1.toNat = item
  · have kept : (pairs ++ [p]).filter (fun p => p.1.toNat == item) = pairs.filter (fun p => p.1.toNat == item) ++ [p] := by
      simp [same]
    rw [if_pos same, kept, List.getLast?_append_of_ne_nil _ (List.cons_ne_nil _ _)]
    rfl
  · have dropped : (pairs ++ [p]).filter (fun p => p.1.toNat == item) = pairs.filter (fun p => p.1.toNat == item) := by
      simp [same]
    rw [if_neg same, dropped]

/-- The last pair of each item gives its value, and a pair out of range the PARTIAL mark (R46). -/
theorem readPairs_eq (pairs : List (Byte × Byte)) :
    readPairs pairs =
      ({ retryLimit := lastItem pairs 1 1 15 3, presenceInterval := lastItem pairs 2 1 255 10,
         idleLimit := lastItem pairs 3 1 255 20, autoJoin := lastItem pairs 4 0 1 0 == 1 }, pairs.any outOfRange) := by
  induction pairs using List.reverseRecOn with
  | nil => rfl
  | append_singleton pairs p ih =>
    have small : p.2.toNat < 256 := p.2.isLt
    rw [readPairs_snoc, ih]
    simp only [lastItem_snoc, List.any_append, List.any_cons, List.any_nil, Bool.or_false, applyPair, itemValue,
      outOfRange, Config.defaultRetryLimit, Config.defaultPresenceInterval, Config.defaultIdleLimit]
    split <;> rename_i item
    · by_cases range : 1 ≤ p.2.toNat ∧ p.2.toNat ≤ 15 <;> simp [item, range]
    · by_cases range : 1 ≤ p.2.toNat ∧ p.2.toNat ≤ 255 <;> simp [item, range] <;> omega
    · by_cases range : 1 ≤ p.2.toNat ∧ p.2.toNat ≤ 255 <;> simp [item, range] <;> omega
    · by_cases range : p.2.toNat ≤ 1 <;> simp [item, range]
      omega
    · rename_i notOne notTwo notThree
      simp [show ¬p.1.toNat = 1 from notOne, show ¬p.1.toNat = 2 from notTwo, show ¬p.1.toNat = 3 from notThree,
        show ¬p.1.toNat = 4 from item]

section
variable {pairs : List (Byte × Byte)} (few : pairs.length ≤ 16) (check : Byte)
include few

theorem count_wholeImage : ((wholeImage pairs check).getD 2 0).toNat = pairs.length :=
  Nat.mod_eq_of_lt (by omega)

/-- Of a whole image only the sum can be wrong. -/
theorem imageGood_wholeImage :
    imageGood (wholeImage pairs check) = ((wholeImage pairs check).foldl (· + ·) 0 == 0#8) := by
  have count := count_wholeImage few check
  have bytes : (wholeImage pairs check).length = 4 + 2 * pairs.length := by
    simp [wholeImage, List.length_flatMap]
    omega
  simp only [imageGood, count, bytes, few, beq_self_eq_true, decide_true, Bool.and_true]
  rfl

theorem imagePairs_wholeImage : imagePairs (wholeImage pairs check) = pairs.flatMap fun p => [p.1, p.2] := by
  have length : (pairs.flatMap fun p => [p.1, p.2]).length = 2 * pairs.length := by
    simp [List.length_flatMap]
    omega
  rw [imagePairs, count_wholeImage few, wholeImage, List.append_assoc]
  exact List.take_left' length

/-- A whole image with a good sum gives the last pair of each item, and one with a bad sum the defaults (R46). -/
theorem validateImage_wholeImage :
    validateImage (wholeImage pairs check) =
      if (wholeImage pairs check).foldl (· + ·) 0 = 0#8 then
        ((readPairs pairs).1, if (readPairs pairs).2 then .partially else .image)
      else (ConfigValues.default, .badImage) := by
  simp only [validateImage, imageGood_wholeImage few, imagePairs_wholeImage few, applyPairs_flatMap, beq_iff_eq]
  rfl

end

/-- What ends with its count has no check byte and is no whole image, whatever its signature and count (R46). -/
theorem validateImage_noCheckByte (a b n : Byte) :
    validateImage [a, b, n] = (ConfigValues.default, .badImage) := by
  have short : imageGood [a, b, n] = false := by
    simp only [imageGood, List.length_cons, List.length_nil, Bool.and_eq_false_iff]
    refine .inl (.inr (beq_false_of_ne ?_))
    omega
  simp only [validateImage, short, Bool.false_eq_true, if_false]

/-- Settles O6: what the image gives is recorded while the clearing runs. -/
theorem imageGivesValues : Obligations.ImageGivesValues := by
  intro s high loading reading clearing
  have row : ∀ bytes, exec (.configReadDone (.image bytes)) s =
      .next (s.setStation { s.station with readDone := some (validateImage bytes) }) := fun bytes =>
    congrArg Host.Outcome.next (endRead_recorded high loading reading clearing (validateImage bytes))
  refine ⟨fun pairs check few => ⟨fun good => ?_, fun bad => ?_⟩, fun a b n _ => ?_⟩
  · rw [row, validateImage_wholeImage few, if_pos good, readPairs_eq]
  · rw [row, validateImage_wholeImage few, if_neg bad]
    rfl
  · rw [row, validateImage_noCheckByte a b n]
    rfl

/-! ### Activity and the settle gap -/

/-- Settles O9: each is one branch of its row, chosen by the LAU's phase. -/
theorem activityAndSettleGap : Obligations.ActivityAndSettleGap := by
  intro s
  refine ⟨?starts, ?unseen, ?settles⟩
  case starts =>
    have row : exec .activityStart s = .next (beginActivity s) := rfl
    rw [row]
    rintro (⟨quiet, idle⟩ | ⟨k, b, slots⟩ | gap)
    · simp only [beginActivity, quiet, idle, Bool.false_eq_true, if_false]
      rfl
    · simp only [beginActivity, slots]
      rfl
    · simp only [beginActivity, gap]
      rfl
  case unseen =>
    intro quiet _
    have row : exec .unseenActivityEnd s = .next (endUnseen s) := rfl
    rw [row]
    simp only [endUnseen, quiet]
    rfl
  case settles =>
    intro quiet idle
    exact congrArg Host.Outcome.next (if_pos ⟨quiet, idle⟩)

end Sys2Proof.Machine

/-! PROOFS. The tick of the timebase (R48): the events it queues and what it counts. -/

namespace Sys2Proof.Machine

/-! ### The events of the timers that run out -/

theorem runsOut_iff (timer : Option Nat) : runsOut timer = true ↔ ∃ n, timer = some n ∧ n ≤ 1 := by
  cases timer <;> simp [runsOut]

theorem mem_dueWhere {i j : Instr} {timer : Option Nat} : i ∈ dueWhere timer j ↔ i = j ∧ runsOut timer = true := by
  unfold dueWhere
  split <;> simp [*]

theorem nodup_dueWhere (timer : Option Nat) (i : Instr) : (dueWhere timer i).Nodup := by
  unfold dueWhere
  split
  · exact List.nodup_singleton i
  · exact List.nodup_nil

section
variable {s : State} {i : Instr}

theorem mem_channelDue {c : ChannelNo} :
    i ∈ channelDue s c ↔
      (i = .channelPauseExpiry c ∨ i = .dataWaitExpiry c ∨ i = .deadlineExpiry c) ∧ runsOut (timerOf s i) = true := by
  simp only [channelDue, List.mem_append, mem_dueWhere]
  constructor
  · rintro ((⟨rfl, due⟩ | ⟨rfl, due⟩) | ⟨rfl, due⟩) <;> exact ⟨by simp, due⟩
  · rintro ⟨rfl | rfl | rfl, due⟩
    · exact .inl (.inl ⟨rfl, due⟩)
    · exact .inl (.inr ⟨rfl, due⟩)
    · exact .inr ⟨rfl, due⟩

/-- Of a slot's two ends by its idle timer the state picks one. -/
theorem mem_contextDue {k : SlotNo} :
    i ∈ contextDue s k ↔
      (i = .contextPauseExpiry k ∨ i = .idleTimerExpiry k ∨ i = .lingerExpiry k) ∧ runsOut (timerOf s i) = true := by
  simp only [contextDue, List.mem_append, mem_dueWhere]
  by_cases lingers : (s.context k).state = .lingering
  · simp only [lingers, if_true]
    constructor
    · rintro (⟨rfl, due⟩ | ⟨rfl, due⟩)
      · exact ⟨.inl rfl, due⟩
      · exact ⟨.inr (.inr rfl), by simpa only [timerOf, lingers, if_true] using due⟩
    · rintro ⟨rfl | rfl | rfl, due⟩
      · exact .inl ⟨rfl, due⟩
      · simp only [timerOf, lingers, if_true, runsOut, Bool.false_eq_true] at due
      · exact .inr ⟨rfl, by simpa only [timerOf, lingers, if_true] using due⟩
  · simp only [lingers, if_false]
    constructor
    · rintro (⟨rfl, due⟩ | ⟨rfl, due⟩)
      · exact ⟨.inl rfl, due⟩
      · exact ⟨.inr (.inl rfl), by simpa only [timerOf, lingers, if_false] using due⟩
    · rintro ⟨rfl | rfl | rfl, due⟩
      · exact .inl ⟨rfl, due⟩
      · exact .inr ⟨rfl, by simpa only [timerOf, lingers, if_false] using due⟩
      · simp only [timerOf, lingers, if_false, runsOut, Bool.false_eq_true] at due

theorem mem_dueEvents : i ∈ dueEvents s ↔ runsOut (timerOf s i) = true := by
  simp only [dueEvents, List.mem_append, List.mem_flatMap, mem_dueWhere, mem_channelDue, mem_contextDue]
  constructor
  · rintro ((((⟨rfl, due⟩ | ⟨rfl, due⟩) | ⟨p, _, rfl, due⟩) | ⟨c, _, _, due⟩) | ⟨k, _, _, due⟩) <;> exact due
  · intro due
    cases i
    case listenTimerExpiry => exact .inl (.inl (.inl (.inl ⟨rfl, due⟩)))
    case presenceTimerExpiry => exact .inl (.inl (.inl (.inr ⟨rfl, due⟩)))
    case peerExpiry p => exact .inl (.inl (.inr ⟨p, List.mem_finRange p, rfl, due⟩))
    case channelPauseExpiry c => exact .inl (.inr ⟨c, List.mem_finRange c, .inl rfl, due⟩)
    case dataWaitExpiry c => exact .inl (.inr ⟨c, List.mem_finRange c, .inr (.inl rfl), due⟩)
    case deadlineExpiry c => exact .inl (.inr ⟨c, List.mem_finRange c, .inr (.inr rfl), due⟩)
    case contextPauseExpiry k => exact .inr ⟨k, mem_allSlots k, .inl rfl, due⟩
    case idleTimerExpiry k => exact .inr ⟨k, mem_allSlots k, .inr (.inl rfl), due⟩
    case lingerExpiry k => exact .inr ⟨k, mem_allSlots k, .inr (.inr rfl), due⟩
    all_goals cases due

end

/-- Lists of events that each name their own place hold no event twice when joined. -/
theorem nodup_flatMap_of_named {α : Type} {places : List α} {events : α → List Instr} (once : places.Nodup)
    (each : ∀ p, (events p).Nodup) (named : ∀ p q i, i ∈ events p → i ∈ events q → p = q) :
    (places.flatMap events).Nodup :=
  List.nodup_flatMap.mpr ⟨fun p _ => each p, once.imp fun differ i first second => differ (named _ _ i first second)⟩

theorem nodup_channelDue (s : State) (c : ChannelNo) : (channelDue s c).Nodup := by
  simp only [channelDue, List.nodup_append', nodup_dueWhere, true_and]
  refine ⟨fun i first second => ?_, fun i first second => ?_⟩
  · cases (mem_dueWhere.mp first).1.symm.trans (mem_dueWhere.mp second).1
  · rcases List.mem_append.mp first with first | first <;>
      cases (mem_dueWhere.mp first).1.symm.trans (mem_dueWhere.mp second).1

theorem nodup_contextDue (s : State) (k : SlotNo) : (contextDue s k).Nodup := by
  simp only [contextDue, List.nodup_append', nodup_dueWhere, true_and]
  intro i first second
  have same := (mem_dueWhere.mp first).1.symm.trans (mem_dueWhere.mp second).1
  split at same <;> cases same

/-- The five parts of the tick's list hold events of different rows. -/
theorem nodup_dueEvents (s : State) : (dueEvents s).Nodup := by
  have peers : (allStations.flatMap fun p => dueWhere (s.peer p).expiry (.peerExpiry p)).Nodup :=
    nodup_flatMap_of_named (List.nodup_finRange 32) (fun p => nodup_dueWhere _ _) fun p q i first second => by
      cases (mem_dueWhere.mp first).1.symm.trans (mem_dueWhere.mp second).1
      rfl
  have channels : (allChannels.flatMap (channelDue s)).Nodup :=
    nodup_flatMap_of_named (List.nodup_finRange 8) (nodup_channelDue s) fun c d i first second => by
      rcases (mem_channelDue.mp first).1 with rfl | rfl | rfl <;> simpa using (mem_channelDue.mp second).1
  have contexts : (allSlots.flatMap (contextDue s)).Nodup :=
    nodup_flatMap_of_named (by decide) (nodup_contextDue s) fun j k i first second => by
      rcases (mem_contextDue.mp first).1 with rfl | rfl | rfl <;> simpa using (mem_contextDue.mp second).1
  simp only [dueEvents, List.nodup_append', nodup_dueWhere, peers, channels, contexts, true_and]
  refine ⟨⟨⟨?presence, ?peers⟩, ?channels⟩, ?contexts⟩ <;> intro i first second
  case presence => cases (mem_dueWhere.mp first).1.symm.trans (mem_dueWhere.mp second).1
  all_goals simp only [List.mem_append, List.mem_flatMap, mem_dueWhere, mem_channelDue, mem_contextDue] at first second
  case peers =>
    obtain ⟨p, _, rfl, _⟩ := second
    simp at first
  case channels => obtain ⟨c, _, rfl | rfl | rfl, _⟩ := second <;> simp at first
  case contexts => obtain ⟨k, _, rfl | rfl | rfl, _⟩ := second <;> simp at first

/-! ### The free order -/

theorem putAt_perm (i : Instr) (place : Nat) (events : List Instr) : (putAt i place events).Perm (i :: events) :=
  List.perm_middle.trans (.of_eq (by rw [List.take_append_drop]))

/-- Whatever the free values are, the order they give is one of the same events (log 3). -/
theorem freelyOrdered_perm (count : Nat) (events : List Instr) : (freelyOrdered count events).Perm events := by
  induction events generalizing count with
  | nil => exact .nil
  | cons i rest ih => exact (putAt_perm i _ _).trans ((ih (count + 1)).cons i)

/-! ### The counting -/

theorem peer_countTimers (s : State) (p : StationNo) :
    (countTimers s).peer p = { s.peer p with expiry := (s.peer p).expiry.map (· - 1) } := by
  simp [countTimers, State.peer, countDown]

theorem channel_countTimers (s : State) (c : ChannelNo) : (countTimers s).channel c = (s.channel c).counted := by
  simp [countTimers, State.channel]

theorem context_countTimers (s : State) (k : SlotNo) : (countTimers s).context k = (s.context k).counted := by
  simp [countTimers, State.context]

/-- Settles O2: the tick counts every timer, and its queue is the events due in some order. -/
theorem emptyQueueTicks : Obligations.EmptyQueueTicks := by
  intro s empty
  have steps : step s = .next (tick s) := by simp only [step, empty]
  refine ⟨fun held => ?_, fun high => ⟨_, steps, ?_⟩⟩
  · rw [steps, tick, if_pos held]
  · have queue : (tick s).pending = freelyOrdered s.freeCount (dueEvents s) := by simp [tick, high]
    have counts : ∃ rest, tick s = { countTimers s with pending := rest, freeCount := (tick s).freeCount } := by
      simp only [tick, high, Bool.false_eq_true, if_false]
      exact ⟨_, rfl⟩
    obtain ⟨_, counts⟩ := counts
    have order := freelyOrdered_perm s.freeCount (dueEvents s)
    refine ⟨?station, ?presence, ?peers, ?channels, ?contexts, ?_, ?_, ?_, ?_, ?_, ?_, ?_, ?_, ?_, ?_, ?events, ?once⟩
    case events => exact fun i => by rw [queue, order.mem_iff, mem_dueEvents, runsOut_iff]
    case once => rw [queue, order.nodup_iff]; exact nodup_dueEvents s
    all_goals rw [counts]
    case peers => exact peer_countTimers s
    case channels => exact channel_countTimers s
    case contexts => exact context_countTimers s
    all_goals rfl

end Sys2Proof.Machine

/-! PROOFS. Behind the mailbox: what the commands do to the blocks reads nothing of the mailbox, of the transaction in
progress or of the queue, and leaves them as they are (R189, R190). So a command's row, whose bytes and GO change the
mailbox only, does to the rest what its effect does to the state before them. -/

namespace Sys2Proof.Machine

/-! ### The mailbox -/

/-- The part of the host port that a transaction changes, with the queue. -/
structure Mailbox where
  command : Vector Byte 16
  spi : Option Spi
  so : Option Byte
  latch : Option Latch
  claims : List HostClaim
  busy : Bool
  due : Bool
  queue : List Instr

/-- The state with another mailbox and queue. -/
def State.withMailbox (s : State) (m : Mailbox) : State :=
  { s with
    port := { s.port with
      command := m.command, spi := m.spi, so := m.so, latch := m.latch, claims := m.claims, busy := m.busy, due := m.due }
    pending := m.queue }

/-- The mailbox and the queue of a state. -/
def State.mailbox (s : State) : Mailbox :=
  { command := s.port.command, spi := s.port.spi, so := s.port.so, latch := s.port.latch, claims := s.port.claims,
    busy := s.port.busy, due := s.port.due, queue := s.pending }

theorem State.withMailbox_self (s : State) : s.withMailbox s.mailbox = s := rfl

/-- An operation neither reads nor changes the mailbox. -/
def Blind (f : State → State) : Prop := ∀ s m, f (s.withMailbox m) = (f s).withMailbox m

theorem Blind.id : Blind fun s => s := fun _ _ => rfl

theorem Blind.comp {f g : State → State} (second : Blind f) (first : Blind g) : Blind fun s => f (g s) :=
  fun s m => (congrArg f (first s m)).trans (second _ m)

/-- A choice by what stands outside the mailbox. -/
theorem Blind.ite {c : State → Prop} [∀ s, Decidable (c s)] {f g : State → State}
    (same : ∀ s m, c (s.withMailbox m) ↔ c s) (yes : Blind f) (no : Blind g) : Blind fun s => if c s then f s else g s :=
  fun s m => by
    by_cases chosen : c s
    · simp only [if_pos chosen, if_pos ((same s m).mpr chosen), yes s m]
    · simp only [if_neg chosen, if_neg fun h => chosen ((same s m).mp h), no s m]

theorem Blind.foldl {α : Type} {f : State → α → State} (each : ∀ x, Blind fun s => f s x) (places : List α) :
    Blind fun s => places.foldl f s := fun s m => by
  induction places generalizing s with
  | nil => rfl
  | cons x rest ih =>
    show rest.foldl f (f (s.withMailbox m) x) = (rest.foldl f (f s x)).withMailbox m
    rw [show f (s.withMailbox m) x = (f s x).withMailbox m from each x s m]
    exact ih _

section
variable {f : State → State} (blind : Blind f) (s : State)
include blind

/-- What does not read the mailbox leaves it as it is. -/
theorem Blind.mailbox : (f s).mailbox = s.mailbox :=
  have same : f s = (f s).withMailbox s.mailbox := blind s s.mailbox
  (congrArg State.mailbox same).trans rfl

/-- A blind operation in the state a command is taken in (R189, R190). -/
theorem Blind.commandWritten (code tag : Byte) (params : List (Fin 16 × Byte)) :
    f (Machine.commandWritten code tag params s) = Machine.commandWritten code tag params (f s) := by
  have command : (f s).port.command = s.port.command := congrArg Mailbox.command (blind.mailbox s)
  have claims : (f s).port.claims = s.port.claims := congrArg Mailbox.claims (blind.mailbox s)
  have busy : (f s).port.busy = s.port.busy := congrArg Mailbox.busy (blind.mailbox s)
  have due : (f s).port.due = s.port.due := congrArg Mailbox.due (blind.mailbox s)
  have queue : (f s).pending = s.pending := congrArg Mailbox.queue (blind.mailbox s)
  have written : ∀ t : State, Machine.commandWritten code tag params t = t.withMailbox
      { command := putBytes ([(0, code), (1, tag)] ++ params) t.port.command, spi := none, so := none, latch := none,
        claims := keptAtRise t.port.claims, busy := t.port.busy, due := t.port.due, queue := t.pending } := fun _ => rfl
  rw [written, blind, written, command, claims, busy, due, queue]

end

/-! ### Channels -/

section
variable (c : ChannelNo)

theorem endChannel_blind (cond : Condition) (detail : Byte) : Blind (endChannel c cond detail) := fun _ _ => rfl
theorem clearMarks_blind : Blind (clearMarks c) := fun _ _ => rfl
theorem startChannel_blind : Blind (startChannel c) := fun _ _ => rfl
theorem enterAborting_blind (why : AbortReason) : Blind (enterAborting c why) := fun _ _ => rfl
theorem enterHeld_blind (phase : HeldPhase) : Blind (enterHeld c phase) := fun _ _ => rfl
theorem claimFrame_blind : Blind (claimFrame c) := fun _ _ => rfl
theorem pendEnd_blind (why : Condition) : Blind (pendEnd c why) := fun _ _ => rfl

theorem giveUp_blind (why : AbortReason) : Blind (giveUp c why) := fun s m => by
  have read : (s.withMailbox m).channel c = s.channel c := rfl
  unfold giveUp
  dsimp only
  rw [read]
  split
  · split <;> rfl
  · split <;> rfl
  · split <;> rfl
  · split <;> rfl
  · rfl

theorem interruptChannel_blind (why : Condition) : Blind fun s => interruptChannel why s c := fun s m => by
  have read : (s.withMailbox m).channel c = s.channel c := rfl
  unfold interruptChannel
  dsimp only
  rw [read]
  split
  · split <;> rfl
  · split <;> rfl
  · split <;> rfl
  · rfl
  · split <;> rfl
  · rfl

theorem resumeChannel_blind : Blind (resumeChannel c) := fun s m => by
  have read : (s.withMailbox m).channel c = s.channel c := rfl
  unfold resumeChannel
  dsimp only
  rw [read]
  split
  · rfl
  · split
    · split <;> rfl
    · rfl
  · rfl

end

theorem channelsWithdraw_blind : Blind channelsWithdraw :=
  .foldl (fun c => .ite (fun _ _ => .rfl) (endChannel_blind c _ _) (interruptChannel_blind c _)) _

/-! ### Contexts -/

section
variable (k : SlotNo)

theorem freeContext_blind : Blind (freeContext k) := fun _ _ => rfl

theorem raiseValid_blind (x : Context) (r : Result) : Blind (raiseValid x r) :=
  .ite (fun _ _ => .rfl) (fun _ _ => rfl) .id

theorem appendArrival_blind (r : Arrival) : Blind (appendArrival r) :=
  .ite (fun _ _ => .rfl) (fun _ _ => rfl) (fun _ _ => rfl)

theorem endContext_blind (r : Result) : Blind (endContext k r) := fun s m => by
  have read : (s.withMailbox m).context k = s.context k := rfl
  unfold endContext
  dsimp only
  rw [read, raiseValid_blind _ r s m, appendArrival_blind _ _ m]
  split <;> rfl

theorem endWhere_blind (cond : Context → Bool) (r : Result) (freeing : Bool) :
    Blind fun s => endWhere cond r freeing s k :=
  .ite (fun _ _ => .rfl)
    (.ite (fun _ _ => .rfl) (endContext_blind k r) (.ite (fun _ _ => .rfl) (freeContext_blind k) .id)) .id

end

theorem contextsWithdraw_blind : Blind contextsWithdraw := .foldl (fun k => endWhere_blind k _ _ _) _

theorem contextsWindowClosed_blind (w : Fin 8) : Blind (contextsWindowClosed w) := .foldl (fun k => endWhere_blind k _ _ _) _

/-! ### The station -/

theorem enterMode_blind (mode : StationMode) : Blind (enterMode mode) := fun _ _ => rfl
theorem enterListening_blind : Blind enterListening := fun _ _ => rfl
theorem stopPresence_blind : Blind stopPresence := fun _ _ => rfl
theorem pendWithdrawal_blind : Blind pendWithdrawal := fun _ _ => rfl

theorem clearPeersNoticed_blind : Blind clearPeersNoticed :=
  .ite (fun _ _ => .rfl) (fun _ _ => rfl) (fun _ _ => rfl)

theorem enterWithdrawn_blind : Blind enterWithdrawn := fun s m => by
  unfold enterWithdrawn
  exact clearPeersNoticed_blind (((enterMode .withdrawn s).setStation
    (enterMode .withdrawn s).station.emptied).setLau s.lau.silenced) m

theorem withdrawAtOnce_blind : Blind withdrawAtOnce := fun s m => by
  unfold withdrawAtOnce
  rw [channelsWithdraw_blind s m, contextsWithdraw_blind _ m, enterWithdrawn_blind _ m]

/-- Entry to WITHDRAWING before the engines are told: LEAVE is ready. -/
def leaving (s : State) : State :=
  (enterMode .withdrawing s).setStation { (enterMode .withdrawing s).station with
    leaveReady := true, joinReady := false, withdrawPending := false }

theorem enterWithdrawing_eq (s : State) :
    enterWithdrawing s = stopPresence (contextsWithdraw (channelsWithdraw (leaving s))) := rfl

theorem enterWithdrawing_blind : Blind enterWithdrawing := fun s m => by
  have enters : leaving (s.withMailbox m) = (leaving s).withMailbox m := rfl
  rw [enterWithdrawing_eq, enterWithdrawing_eq, enters, channelsWithdraw_blind _ m, contextsWithdraw_blind _ m,
    stopPresence_blind _ m]

theorem withdrawn_blind : Blind withdrawn := fun s m => by
  have mode : (s.withMailbox m).station = s.station := rfl
  have sends : (s.withMailbox m).lau = s.lau := rfl
  unfold withdrawn
  rw [mode, sends]
  split
  · exact withdrawAtOnce_blind s m
  · exact withdrawAtOnce_blind s m
  · split
    · rfl
    · exact withdrawAtOnce_blind s m
  · split
    · rfl
    · exact enterWithdrawing_blind s m
  · rfl

theorem enterFirstMode_blind : Blind enterFirstMode :=
  .ite (fun _ _ => .rfl) enterListening_blind (enterMode_blind .offline)

theorem restartStation_blind : Blind restartStation := .comp enterFirstMode_blind (g := restartClear) fun _ _ => rfl

theorem closeWindow_blind (w : Fin 8) : Blind (closeWindow w) :=
  .comp (contextsWindowClosed_blind w) (g := fun s => s.setWindow w { s.window w with isOpen := false }) fun _ _ => rfl

/-! ### Effects of commands -/

/-- An effect reads no more of the mailbox than the COMMAND area. -/
def BlindEffect (effect : State → Reply × State) : Prop :=
  ∀ s m, m.command = s.port.command → effect (s.withMailbox m) = ((effect s).1, (effect s).2.withMailbox m)

section
variable {s : State} {m : Mailbox}

theorem cmd_withMailbox (same : m.command = s.port.command) (i : Fin 16) : (s.withMailbox m).cmd i = s.cmd i :=
  congrArg (fun area : Vector Byte 16 => area[i.val]) same

theorem cmdWord_withMailbox (same : m.command = s.port.command) (i j : Fin 16) :
    (s.withMailbox m).cmdWord i j = s.cmdWord i j := by
  rw [State.cmdWord, cmd_withMailbox same, cmd_withMailbox same]
  rfl

theorem descriptorArg_withMailbox (same : m.command = s.port.command) :
    (s.withMailbox m).descriptorArg = s.descriptorArg := by
  simp only [State.descriptorArg, cmd_withMailbox same, cmdWord_withMailbox same]

end

/-- An effect that answers as its state says and changes the state by a blind operation. -/
theorem BlindEffect.of_blind {reply : State → Reply} {f : State → State}
    (reads : ∀ s m, m.command = s.port.command → reply (s.withMailbox m) = reply s) (works : Blind f) :
    BlindEffect fun s => (reply s, f s) := fun s m same => Prod.ext (reads s m same) (works s m)

theorem BlindEffect.ite {c : State → Prop} [∀ s, Decidable (c s)] {f g : State → Reply × State}
    (same : ∀ s m, m.command = s.port.command → (c (s.withMailbox m) ↔ c s)) (yes : BlindEffect f) (no : BlindEffect g) :
    BlindEffect fun s => if c s then f s else g s := fun s m kept => by
  by_cases chosen : c s
  · simp only [if_pos chosen, if_pos ((same s m kept).mpr chosen), yes s m kept]
  · simp only [if_neg chosen, if_neg fun h => chosen ((same s m kept).mp h), no s m kept]

theorem onChannel_blind {act : ChannelNo → State → Reply × State} (each : ∀ c, BlindEffect (act c)) :
    BlindEffect (onChannel act) := fun s m same => by
  unfold onChannel
  rw [cmd_withMailbox same]
  split
  · rfl
  · exact each _ s m same

theorem refused_blind (r : Reply) : BlindEffect fun s => (r, s) := fun _ _ _ => rfl

theorem joinEffect_blind : BlindEffect joinEffect :=
  .ite (fun _ _ _ => .rfl) (fun _ _ _ => rfl) (fun _ _ _ => rfl)

theorem withdrawEffect_blind : BlindEffect withdrawEffect :=
  .ite (fun _ _ _ => .rfl)
    (.of_blind (reply := fun s => .ok [(withdrawn s).modeByte])
      (fun s m _ => by rw [withdrawn_blind s m]; rfl) withdrawn_blind)
    fun _ _ _ => rfl

theorem restartEffect_blind : BlindEffect restartEffect :=
  .of_blind (reply := fun s => .ok [(restartStation s).modeByte])
    (fun s m _ => by rw [restartStation_blind s m]; rfl) restartStation_blind

theorem stationInfoEffect_blind : BlindEffect stationInfoEffect := fun _ _ _ => rfl

theorem peerInfoEffect_blind : BlindEffect peerInfoEffect := fun s m same => by
  unfold peerInfoEffect
  rw [cmd_withMailbox same]
  split <;> rfl

theorem openWindowEffect_blind : BlindEffect openWindowEffect := fun s m same => by
  have mask : (s.withMailbox m).cmdMask = s.cmdMask := by simp only [State.cmdMask, cmd_withMailbox same]
  have checks : ∀ id w, openRefusal (s.withMailbox m) id w = openRefusal s id w := fun _ _ => rfl
  unfold openWindowEffect
  simp only [cmd_withMailbox same, cmdWord_withMailbox same, mask, checks]
  split
  · rfl
  · split
    · rfl
    · split
      · rfl
      · split <;> rfl

theorem closeWindowEffect_blind : BlindEffect closeWindowEffect := fun s m same => by
  unfold closeWindowEffect
  rw [cmd_withMailbox same]
  split
  · rfl
  · rename_i id _
    have read : (s.withMailbox m).window id = s.window id := rfl
    have count : activeOn (s.withMailbox m) id = activeOn s id := rfl
    rw [read]
    split
    · rw [closeWindow_blind id s m, count]
    · rfl

theorem setValidEffect_blind : BlindEffect setValidEffect := fun s m same => by
  unfold setValidEffect
  rw [cmd_withMailbox same, cmdWord_withMailbox same]
  split
  · rfl
  · rename_i id _
    have read : (s.withMailbox m).window id = s.window id := rfl
    rw [read]
    split
    · rfl
    · split <;> rfl

theorem windowInfoEffect_blind : BlindEffect windowInfoEffect := fun s m same => by
  unfold windowInfoEffect
  rw [cmd_withMailbox same]
  split <;> rfl

theorem takeArrivalEffect_blind : BlindEffect takeArrivalEffect := fun s m _ => by
  have read : (s.withMailbox m).arrivals = s.arrivals := rfl
  unfold takeArrivalEffect
  rw [read]
  split <;> rfl

theorem startOn_blind (c : ChannelNo) : BlindEffect (startOn c) := fun s m same => by
  have checks : ∀ d, startRefusal c d (s.withMailbox m) = startRefusal c d s := fun _ => rfl
  unfold startOn
  rw [descriptorArg_withMailbox same, checks]
  split <;> rfl

theorem armOn_blind (c : ChannelNo) : BlindEffect (armOn c) := fun s m same => by
  have checks : ∀ d, armRefusal c d (s.withMailbox m) = armRefusal c d s := fun _ => rfl
  have read : (s.withMailbox m).channel c = s.channel c := rfl
  unfold armOn
  rw [descriptorArg_withMailbox same, checks, read]
  split
  · rfl
  · dsimp only
    split <;> rfl

theorem triggerOn_blind (c : ChannelNo) : BlindEffect (triggerOn c) :=
  .ite (fun _ _ _ => .rfl) (refused_blind _) (.ite (fun _ _ _ => .rfl) (refused_blind _)
    (.ite (fun _ _ _ => .rfl) (fun _ _ _ => rfl) (fun _ _ _ => rfl)))

theorem holdOn_blind (c : ChannelNo) : BlindEffect (holdOn c) := fun s m _ => by
  have read : (s.withMailbox m).channel c = s.channel c := rfl
  unfold holdOn
  dsimp only
  rw [read]
  split <;> split <;> rfl

theorem resumeOn_blind (c : ChannelNo) : BlindEffect (resumeOn c) :=
  .ite (fun _ _ _ => .rfl) (.of_blind (reply := fun _ => .ok []) (fun _ _ _ => rfl) (resumeChannel_blind c))
    (refused_blind _)

theorem cancelOn_blind (c : ChannelNo) : BlindEffect (cancelOn c) :=
  .ite (fun _ _ _ => .rfl) (fun _ _ _ => rfl)
    (.of_blind (reply := fun s => if (s.channel c).endPends then .pending else .ok []) (fun _ _ _ => rfl)
      (giveUp_blind c .cancelled))

theorem setDeadlineOn_blind (c : ChannelNo) : BlindEffect (setDeadlineOn c) := fun s m same => by
  have read : (s.withMailbox m).channel c = s.channel c := rfl
  unfold setDeadlineOn
  dsimp only
  rw [cmdWord_withMailbox same, read]
  split
  · rfl
  · split
    · rfl
    · split <;> rfl

theorem clearDeadlineOn_blind (c : ChannelNo) : BlindEffect (clearDeadlineOn c) :=
  .ite (fun _ _ _ => .rfl) (fun _ _ _ => rfl) (.ite (fun _ _ _ => .rfl) (fun _ _ _ => rfl) (refused_blind _))

theorem channelInfoOn_blind (c : ChannelNo) : BlindEffect (channelInfoOn c) := fun s m same => by
  unfold channelInfoOn
  rw [cmd_withMailbox same]
  split
  · rfl
  · split
    · rfl
    · split <;> rfl

theorem releaseOn_blind (c : ChannelNo) : BlindEffect (releaseOn c) :=
  .ite (fun _ _ _ => .rfl) (fun _ _ _ => rfl) (refused_blind _)

theorem contextInfoEffect_blind : BlindEffect contextInfoEffect := fun s m same => by
  unfold contextInfoEffect
  rw [cmd_withMailbox same, cmd_withMailbox same]
  split
  · rfl
  · split
    · rfl
    · split
      · rfl
      · split <;> rfl

theorem dropOn_blind (k : SlotNo) : BlindEffect (dropOn k) := fun s m _ => by
  have read : (s.withMailbox m).context k = s.context k := rfl
  unfold dropOn
  dsimp only
  rw [read]
  split
  · rfl
  · rfl
  · rw [endContext_blind k _ s m]

theorem dropContextEffect_blind : BlindEffect dropContextEffect := fun s m same => by
  unfold dropContextEffect
  rw [cmd_withMailbox same]
  split
  · rfl
  · exact dropOn_blind _ s m same

/-- The effect of every command is blind to the mailbox but for the COMMAND area. -/
theorem commandEffect_blind : BlindEffect commandEffect := fun s m same => by
  unfold commandEffect
  rw [cmd_withMailbox same]
  split
  · exact joinEffect_blind s m same
  · exact withdrawEffect_blind s m same
  · exact restartEffect_blind s m same
  · exact stationInfoEffect_blind s m same
  · exact peerInfoEffect_blind s m same
  · exact openWindowEffect_blind s m same
  · exact closeWindowEffect_blind s m same
  · exact setValidEffect_blind s m same
  · exact windowInfoEffect_blind s m same
  · exact onChannel_blind startOn_blind s m same
  · exact onChannel_blind armOn_blind s m same
  · exact onChannel_blind triggerOn_blind s m same
  · exact onChannel_blind holdOn_blind s m same
  · exact onChannel_blind resumeOn_blind s m same
  · exact onChannel_blind cancelOn_blind s m same
  · exact onChannel_blind setDeadlineOn_blind s m same
  · exact onChannel_blind clearDeadlineOn_blind s m same
  · exact onChannel_blind channelInfoOn_blind s m same
  · exact onChannel_blind releaseOn_blind s m same
  · exact contextInfoEffect_blind s m same
  · exact dropContextEffect_blind s m same
  · exact takeArrivalEffect_blind s m same
  · rfl

end Sys2Proof.Machine

/-! PROOFS. The host port byte by byte (R182 to R190), the command it takes, and its register window. -/

namespace Sys2Proof.Machine

/-! ### Memory bytes -/

section
variable {s : State}

/-- A byte of a memory write in a transaction of its kind (R183). -/
theorem writeMemoryByte_serving {a : Nat} (serves : s.station.mode ≠ .loading)
    (spi : s.port.spi = some { kind := .memoryWrite, address := a }) (v : Byte) :
    writeMemoryByte v s = s.setPort { s.port with
      spi := some { kind := .memoryWrite, address := (a + 1) % 65536 }, so := some 0#8,
      claims := s.port.claims ++ [.write a v] } := by
  simp [writeMemoryByte, serves, State.nextMemoryAddress, State.nextAddress, State.spiAddress, spi]

theorem readMemoryByte_serving {a : Nat} (serves : s.station.mode ≠ .loading)
    (spi : s.port.spi = some { kind := .memoryRead, address := a }) :
    readMemoryByte s = s.setPort { s.port with
      spi := some { kind := .memoryRead, address := (a + 1) % 65536 },
      claims := s.port.claims ++ [.read a] } := by
  simp [readMemoryByte, serves, State.nextMemoryAddress, State.nextAddress, State.spiAddress, spi]

theorem writeMemoryByte_loading {a : Nat} (loading : s.station.mode = .loading)
    (spi : s.port.spi = some { kind := .memoryWrite, address := a }) (v : Byte) :
    writeMemoryByte v s = s.setPort { s.port with
      spi := some { kind := .memoryWrite, address := (a + 1) % 65536 }, so := some 0#8 } := by
  simp [writeMemoryByte, loading, State.nextMemoryAddress, State.nextAddress, State.spiAddress, spi]

theorem readMemoryByte_loading {a : Nat} (loading : s.station.mode = .loading)
    (spi : s.port.spi = some { kind := .memoryRead, address := a }) :
    readMemoryByte s = s.setPort { s.port with
      spi := some { kind := .memoryRead, address := (a + 1) % 65536 }, so := some 0#8 } := by
  simp [readMemoryByte, loading, State.nextMemoryAddress, State.nextAddress, State.spiAddress, spi]

/-- The port with a transaction opened, its instruction byte and address received (R182). -/
def opened (kind : SpiKind) (a : Word) (s : State) : State :=
  s.setPort { s.port with spi := some { kind := kind, address := a.toNat }, so := some 0 }

section
variable (high : s.pins.resetHeld = false)
include high

theorem exec_memoryWriteByte_first (idle : s.port.spi = none) (a : Word) (v : Byte) :
    exec (.memoryWriteByte (some a) v) s = .next (writeMemoryByte v (opened .memoryWrite a s)) := by
  show Host.Outcome.next (((atDataByte 0x51#8 (some a) s).map (writeMemoryByte v)).getD s) = _
  rw [atDataByte_first s _ a high idle, openTransaction_eq s 0x51#8 a (kind := .memoryWrite) rfl]
  rfl

theorem exec_memoryReadByte_first (idle : s.port.spi = none) (a : Word) :
    exec (.memoryReadByte (some a)) s = .next (readMemoryByte (opened .memoryRead a s)) := by
  show Host.Outcome.next (((atDataByte 0x52#8 (some a) s).map readMemoryByte).getD s) = _
  rw [atDataByte_first s _ a high idle, openTransaction_eq s 0x52#8 a (kind := .memoryRead) rfl]
  rfl

theorem exec_memoryWriteByte_further {a : Nat} (spi : s.port.spi = some { kind := .memoryWrite, address := a })
    (v : Byte) : exec (.memoryWriteByte none v) s = .next (writeMemoryByte v s) := by
  show Host.Outcome.next (((atDataByte 0x51#8 none s).map (writeMemoryByte v)).getD s) = _
  rw [atDataByte_further s _ high spi rfl]
  rfl

theorem exec_memoryReadByte_further {a : Nat} (spi : s.port.spi = some { kind := .memoryRead, address := a }) :
    exec (.memoryReadByte none) s = .next (readMemoryByte s) := by
  show Host.Outcome.next (((atDataByte 0x52#8 none s).map readMemoryByte).getD s) = _
  rw [atDataByte_further s _ high spi rfl]
  rfl

end

end

/-- Settles O37: the byte that opens its transaction and the byte that continues one are received at the same address. -/
theorem memoryBytes : Obligations.MemoryBytes := by
  rintro s first a ⟨high, serves⟩
  refine ⟨fun v received => ?write, fun address idle => ?firstRead, fun further spi => ?read⟩
  case write =>
    rcases received with ⟨address, idle⟩ | ⟨rfl, spi⟩
    · obtain ⟨w, rfl, rfl⟩ := Option.map_eq_some_iff.mp address
      rw [exec_memoryWriteByte_first high idle, writeMemoryByte_serving (s := opened .memoryWrite w s) serves rfl]
      rfl
    · rw [exec_memoryWriteByte_further high spi, writeMemoryByte_serving serves spi]
  case firstRead =>
    obtain ⟨w, rfl, rfl⟩ := Option.map_eq_some_iff.mp address
    rw [exec_memoryReadByte_first high idle, readMemoryByte_serving (s := opened .memoryRead w s) serves rfl]
    rfl
  case read =>
    subst further
    rw [exec_memoryReadByte_further high spi, readMemoryByte_serving serves spi]

/-! ### Host commands' rows -/

/-- A row is that of a host command with a code, a tag and parameters, and its effect is the one the code names. -/
structure HostRow (i : Instr) (code tag : Byte) (params : List (Fin 16 × Byte)) (effect : State → Reply × State) :
    Prop where
  row : ∀ s, exec i s = .next (hostCommand code tag params effect s)
  above : ∀ p ∈ params, 2 ≤ p.1.val
  named : ∀ u, u.cmd 0 = code → commandEffect u = effect u

/-- Each row that writes COMMAND bytes is a host command's. -/
theorem hostRow_of_record {i : Instr} {bytes : List (Fin 16 × Byte)} (record : commandRecord i = some bytes) :
    ∃ code tag params effect, bytes = [(0, code), (1, tag)] ++ params ∧ HostRow i code tag params effect := by
  cases i <;> cases record
  case badCommand => exact ⟨_, _, [], commandEffect, rfl, fun _ => rfl, nofun, fun _ _ => rfl⟩
  all_goals exact
    ⟨_, _, _, _, rfl, fun _ => rfl, by simp [openWindowBytes, descriptorBytes, wordAt],
      fun u code => by rw [commandEffect, code]; rfl⟩

/-! ### Taking a command -/

/-- A mailbox in which no command is taken or due. -/
def Mailbox.free (m : Mailbox) : Mailbox := { m with busy := false, due := false }

/-- What a command answers and does is the same whatever BUSY says and whatever is queued (R190). -/
theorem takeCommand_withMailbox (s : State) (m : Mailbox) (same : m.command = s.port.command) :
    takeCommand commandEffect (s.withMailbox m) = (takeCommand commandEffect s).withMailbox m.free := by
  have area : m.command = (commandEffect s).2.port.command := same.trans (commandEffect_keeps s).command.symm
  have answer (r : Reply) (u : State) (same : m.command = u.port.command) :
      completeCommand r (u.withMailbox m) = (completeCommand r u).withMailbox m.free := by
    rw [completeCommand, cmd_withMailbox same, cmd_withMailbox same]
    rfl
  rw [takeCommand, commandEffect_blind s m same]
  exact answer _ _ area

section
variable {i : Instr} {code tag : Byte} {params : List (Fin 16 × Byte)} {effect : State → Reply × State}
  (known : HostRow i code tag params effect) (s : State)
include known

/-- A row takes the command that its own bytes name. -/
theorem HostRow.takeCommand_eq :
    takeCommand effect (commandWritten code tag params s) = takeCommand commandEffect (commandWritten code tag params s) := by
  have code : (commandWritten code tag params s).cmd 0 = code := putBytes_code _ _ _ _ known.above
  rw [takeCommand, takeCommand, known.named _ code]

end

/-! ### The rise of CS_N -/

section
variable (s : State)

/-- A command waits for the rise of CS_N, or none is due or LOADING lets none be taken. -/
theorem waits_or_settled :
    (s.port.due = true ∧ s.station.mode ≠ .loading) ∨ (s.port.due = false ∨ s.station.mode = .loading) := by
  by_cases loading : s.station.mode = .loading
  · exact .inr (.inr loading)
  · cases due : s.port.due with
    | true => exact .inl ⟨rfl, loading⟩
    | false => exact .inr (.inl rfl)

/-- A rise that finds no command to take only ends the transaction. -/
theorem riseCsN_of_settled {s : State} (settled : s.port.due = false ∨ s.station.mode = .loading) :
    riseCsN s = endTransaction s := settled.elim (riseCsN_notDue s) (riseCsN_loading s)

/-- After a rise of CS_N no command waits that the next could take. -/
theorem riseCsN_settled : (riseCsN s).port.due = false ∨ (riseCsN s).station.mode = .loading := by
  rcases waits_or_settled s with ⟨due, serves⟩ | settled
  · rw [riseCsN_due s due serves]
    exact .inl rfl
  · rw [riseCsN_of_settled settled]
    exact settled

theorem riseCsN_resetHeld : (riseCsN s).pins.resetHeld = s.pins.resetHeld := by
  unfold riseCsN
  dsimp only
  split
  · exact (commandEffect_keeps (endTransaction s)).resetHeld
  · rfl

theorem riseCsN_so : (riseCsN s).port.so = none := by
  unfold riseCsN
  dsimp only
  split
  · exact (commandEffect_keeps (endTransaction s)).so
  · rfl

/-- A row's transaction after a rise of CS_N is the row's transaction (log 8). -/
theorem hostCommand_afterRise (code tag : Byte) (params : List (Fin 16 × Byte)) (effect : State → Reply × State) :
    hostCommand code tag params effect (riseCsN s) =
      if s.pins.resetHeld then riseCsN s else hostCommand code tag params effect s := by
  simp only [hostCommand, riseCsN_resetHeld, riseCsN_of_settled (riseCsN_settled s), commandWritten_afterRise]
  split <;> simp [*]

end

/-- A command's effect leaves the mailbox. -/
theorem commandEffect_mailbox (s : State) : (commandEffect s).2.mailbox = s.mailbox := by
  have same : (commandEffect s).2 = (commandEffect s).2.withMailbox s.mailbox :=
    congrArg Prod.snd (commandEffect_blind s s.mailbox rfl)
  exact (congrArg State.mailbox same).trans rfl

theorem takeCommand_mailbox (s : State) : (takeCommand commandEffect s).mailbox = s.mailbox.free :=
  congrArg Mailbox.free (commandEffect_mailbox s)

/-- A command does the same whatever is queued. -/
theorem takeCommand_queue (s : State) (queue : List Instr) :
    takeCommand commandEffect { s with pending := queue } = { takeCommand commandEffect s with pending := queue } := by
  have taken := takeCommand_withMailbox s { s.mailbox with queue := queue } rfl
  refine taken.trans ?_
  show _ = (takeCommand commandEffect s).withMailbox { (takeCommand commandEffect s).mailbox with queue := queue }
  rw [takeCommand_mailbox]
  rfl

/-- The rise of CS_N does the same whatever is queued. -/
theorem riseCsN_queue (s : State) (queue : List Instr) :
    riseCsN { s with pending := queue } = { riseCsN s with pending := queue } := by
  rcases waits_or_settled s with ⟨due, serves⟩ | settled
  · rw [riseCsN_due s due serves, riseCsN_due { s with pending := queue } due serves]
    exact takeCommand_queue (endTransaction s) queue
  · rw [riseCsN_of_settled settled, riseCsN_of_settled (s := { s with pending := queue }) settled]
    rfl

/-! ### A command taken at the rise of CS_N -/

/-- COMMAND bytes that stand in the area already are written without a change. -/
theorem putBytes_standing (bytes : List (Fin 16 × Byte)) (area : Vector Byte 16)
    (stands : ∀ p ∈ bytes, area[p.1.val] = p.2) : putBytes bytes area = area := by
  induction bytes with
  | nil => rfl
  | cons p rest ih =>
    obtain ⟨i, b⟩ := p
    have here : area[i.val] = b := stands (i, b) List.mem_cons_self
    have same : area.set i.val b = area := by
      rw [← here]
      exact Vector.set_getElem_self _
    rw [putBytes, same]
    exact ih fun p mem => stands p (List.mem_cons_of_mem _ mem)

/-- The state with no command taken or due. -/
def State.portFreed (s : State) : State := s.setPort { s.port with busy := false, due := false }

section
variable {s : State} (high : s.pins.resetHeld = false)
include high

theorem exec_csNRise : exec .csNRise s = .next (riseCsN s) :=
  congrArg Host.Outcome.next (if_neg (by rw [high]; exact Bool.false_ne_true))

/-- A due command whose bytes stand in the COMMAND area is taken as its row takes it (R190, R192; log 8). -/
theorem csNRise_takes {i : Instr} {bytes : List (Fin 16 × Byte)} (due : s.port.due = true)
    (serves : s.station.mode ≠ .loading) (record : commandRecord i = some bytes)
    (stands : ∀ p ∈ bytes, s.port.command[p.1.val] = p.2) :
    exec .csNRise s = exec i s.portFreed := by
  obtain ⟨code, tag, params, effect, rfl, known⟩ := hostRow_of_record record
  have kept := putBytes_standing _ s.port.command stands
  have written : commandWritten code tag params s.portFreed =
      (endTransaction s).withMailbox (endTransaction s).mailbox.free :=
    congrArg (fun area => s.withMailbox { (endTransaction s).mailbox.free with command := area }) kept
  rw [exec_csNRise high, riseCsN_due s due serves, known.row,
    hostCommand_taken code tag params s.portFreed effect ⟨⟨high, serves⟩, rfl, rfl⟩, known.takeCommand_eq, written,
    takeCommand_withMailbox _ _ rfl]
  show _ = Host.Outcome.next ((takeCommand commandEffect (endTransaction s)).withMailbox (endTransaction s).mailbox.free)
  rw [← takeCommand_mailbox]
  rfl

/-- A row comes after the rise of CS_N that ends the transaction in progress (R190; log 8). -/
theorem exec_row_afterRise {i : Instr} (row : commandRecord i ≠ none) : exec i s = exec i (riseCsN s) := by
  obtain ⟨bytes, record⟩ := Option.ne_none_iff_exists'.mp row
  obtain ⟨code, tag, params, effect, rfl, known⟩ := hostRow_of_record record
  rw [known.row, known.row, hostCommand_afterRise, high]
  rfl

end

/-- A code that the table does not hold does nothing but answer (R192). -/
theorem commandEffect_unknown {s : State} (unknown : commandCodes.contains (s.cmd 0).toNat = false) :
    commandEffect s = (.refused .badCommand 0, s) := by
  unfold commandEffect
  split
  case h_23 => rfl
  all_goals
    rename_i code
    rw [code] at unknown
    cases unknown

/-! ### Instruction bytes -/

/-- A byte that is no instruction byte of the table opens no transaction (R182). -/
theorem spiKind_unknown {code : Byte} (unknown : spiCodes.contains code.toNat = false) : spiKind code.toNat = none := by
  simp only [spiCodes, spiTable, List.map_cons, List.map_nil, List.contains_eq_mem, decide_eq_false_iff_not,
    List.mem_cons, List.not_mem_nil, or_false, not_or] at unknown
  obtain ⟨not41, not42, not51, not52⟩ := unknown
  simp only [spiKind, spiTable, List.lookup, beq_false_of_ne not41, beq_false_of_ne not42, beq_false_of_ne not51,
    beq_false_of_ne not52]

theorem openingByte_so (b : Byte) (s : State) : (openingByte b s).port.so = s.port.so := by
  unfold openingByte
  split <;> rfl

/-- The four instruction bytes of the table open their transactions at the address after them, most significant byte
first, with SO driven with 0 from the fall of CS_N on (R182). -/
theorem opening_bytes (s : State) {code : Byte} {kind : SpiKind} (known : spiKind code.toNat = some kind) (a : Word)
    {t₀ t₁ t₂ t₃ : State} (e₀ : t₀ = fallCsN s) (e₁ : t₁ = openingByte code t₀) (e₂ : t₂ = openingByte (hi a) t₁)
    (e₃ : t₃ = openingByte (lo a) t₂) :
    t₀.port.so = some 0#8 ∧ t₁.port.so = some 0#8 ∧ t₂.port.so = some 0#8 ∧
      t₃ = s.setPort { s.port with spi := some { kind := kind, address := a.toNat }, so := some 0#8 } := by
  subst e₀ e₁ e₂ e₃
  exact ⟨rfl, openingByte_so _ _, (openingByte_so _ _).trans (openingByte_so _ _), openTransaction_eq s code a known⟩

theorem exec_badInstruction_idle {s : State} {code : Byte} (high : s.pins.resetHeld = false) (idle : s.port.spi = none)
    (unknown : spiCodes.contains code.toNat = false) :
    exec (.badInstruction code) s = .next (s.setPort { s.port with
      spi := some { kind := .ignored, address := 0 }, so := some 0#8 }) := by
  show Host.Outcome.next (instructionByte code s) = _
  simp only [instructionByte, high, idle, Bool.false_eq_true, if_false, openingByte_bad s code (spiKind_unknown unknown)]
  rfl

/-! ### Register bytes and the transaction they stand in -/

/-- The rows that are bytes of a register write. -/
theorem exec_of_registerAddress {i : Instr} {a : Nat} (reaches : registerAddress i = some a) :
    ∃ (address : Word) (effect : State → State), address.toNat = a ∧
      ∀ s, exec i s = .next (registerByte address effect s) := by
  cases i <;> cases reaches
  case noticeWrite low v => exact ⟨if low then 0x09#16 else 0x08#16, _, by cases low <;> rfl, fun _ => rfl⟩
  case noticeMaskWrite low v => exact ⟨if low then 0x0B#16 else 0x0A#16, _, by cases low <;> rfl, fun _ => rfl⟩
  case channelEndedWrite v => exact ⟨0x0C#16, _, rfl, fun _ => rfl⟩
  case channelProgressWrite v => exact ⟨0x0D#16, _, rfl, fun _ => rfl⟩
  case registerWrite address v => exact ⟨address, _, rfl, fun _ => rfl⟩
  case goWrite v => exact ⟨0x0F#16, _, rfl, fun _ => rfl⟩

section
variable {s : State}

theorem registerByte_ignored {a : Nat} (spi : s.port.spi = some { kind := .ignored, address := a }) (address : Word)
    (effect : State → State) : registerByte address effect s = s := by
  rw [registerByte, atDataByte_ignored s _ _ spi (by decide)]
  rfl

/-- A byte of the port is a register byte, a memory byte, an instruction byte or the rise of CS_N. -/
theorem portByte_cases {i : Instr} (byte : isPortByte i = true) :
    (∃ a, registerAddress i = some a) ∨ (∃ first v, i = .memoryWriteByte first v) ∨ (∃ first, i = .memoryReadByte first) ∨
      (∃ code, i = .badInstruction code) ∨ i = .csNRise := by
  cases i <;> cases byte
  case memoryWriteByte first v => exact .inr (.inl ⟨first, v, rfl⟩)
  case memoryReadByte first => exact .inr (.inr (.inl ⟨first, rfl⟩))
  case badInstruction code => exact .inr (.inr (.inr (.inl ⟨code, rfl⟩)))
  case csNRise => exact .inr (.inr (.inr (.inr rfl)))
  all_goals exact .inl ⟨_, rfl⟩

theorem registerByte_held (held : s.pins.resetHeld = true) (address : Word) (effect : State → State) :
    registerByte address effect s = s := by
  rw [registerByte, atDataByte_held s _ _ held]
  rfl

/-- In a transaction with a bad instruction byte every byte is ignored until CS_N rises (R182). -/
theorem exec_portByte_ignored {i : Instr} {a : Nat} (spi : s.port.spi = some { kind := .ignored, address := a })
    (byte : isPortByte i = true) (notRise : i ≠ .csNRise) : exec i s = .next s := by
  rcases portByte_cases byte with ⟨b, reaches⟩ | ⟨first, v, rfl⟩ | ⟨first, rfl⟩ | ⟨code, rfl⟩ | rise
  · obtain ⟨address, effect, _, row⟩ := exec_of_registerAddress reaches
    rw [row, registerByte_ignored spi]
  · show Host.Outcome.next (((atDataByte 0x51#8 first s).map (writeMemoryByte v)).getD s) = _
    rw [atDataByte_ignored s _ _ spi (by decide)]
    rfl
  · show Host.Outcome.next (((atDataByte 0x52#8 first s).map readMemoryByte).getD s) = _
    rw [atDataByte_ignored s _ _ spi (by decide)]
    rfl
  · show Host.Outcome.next (instructionByte code s) = _
    simp only [instructionByte, spi, if_true, ite_self]
  · exact absurd rise notRise

/-- A byte that does not continue the transaction in progress comes after the rise of CS_N that ends it (log 16). -/
theorem exec_opens_afterRise {i : Instr} {x : Spi} (high : s.pins.resetHeld = false) (spi : s.port.spi = some x)
    (kind : x.kind ≠ .ignored) (opens : OpensTransaction s i) : exec i s = exec i (riseCsN s) := by
  have high' : (riseCsN s).pins.resetHeld = false := (riseCsN_resetHeld s).trans high
  have ofRegister {a : Nat} (reaches : registerAddress i = some a)
      (elsewhere : s.port.spi ≠ some { kind := .registerWrite, address := a }) : exec i s = exec i (riseCsN s) := by
    obtain ⟨address, effect, rfl, row⟩ := exec_of_registerAddress reaches
    rw [row, row, registerByte_reopened s effect address high spi kind fun same => elsewhere (spi.trans (congrArg some same))]
  have first (code : Byte) (a : Word) : atDataByte code (some a) s = atDataByte code (some a) (riseCsN s) := by
    rw [atDataByte_reopened s code a high spi kind, atDataByte_first (riseCsN s) code a high' (riseCsN_spi s)]
  unfold OpensTransaction at opens
  split at opens
  · rename_i first' v
    obtain ⟨a, rfl⟩ := Option.ne_none_iff_exists'.mp opens
    show Host.Outcome.next (((atDataByte 0x51#8 (some a) s).map (writeMemoryByte v)).getD s) =
      Host.Outcome.next (((atDataByte 0x51#8 (some a) (riseCsN s)).map (writeMemoryByte v)).getD (riseCsN s))
    rw [first, atDataByte_first (riseCsN s) _ a high' (riseCsN_spi s)]
    rfl
  · rename_i first'
    obtain ⟨a, rfl⟩ := Option.ne_none_iff_exists'.mp opens
    show Host.Outcome.next (((atDataByte 0x52#8 (some a) s).map readMemoryByte).getD s) =
      Host.Outcome.next (((atDataByte 0x52#8 (some a) (riseCsN s)).map readMemoryByte).getD (riseCsN s))
    rw [first, atDataByte_first (riseCsN s) _ a high' (riseCsN_spi s)]
    rfl
  · rename_i code
    show Host.Outcome.next (instructionByte code s) = Host.Outcome.next (instructionByte code (riseCsN s))
    simp only [instructionByte, high, high', spi, kind, riseCsN_spi, Bool.false_eq_true, if_false]
  · obtain ⟨a, reaches, elsewhere⟩ := opens
    exact ofRegister reaches elsewhere

end

/-- Settles O41: the rise of CS_N takes what its row takes, and the bytes of a transaction are received one by one. -/
theorem commandTaken : Obligations.CommandTaken := by
  intro s high
  refine ⟨fun notDue => ?rise, fun i bytes due serves record _ stands => csNRise_takes high due serves record stands,
    fun tag code takes unknown => ?bad, fun code kind mem a t₀ t₁ t₂ t₃ e₀ e₁ e₂ e₃ => ?opening,
    fun code idle unknown => exec_badInstruction_idle high idle unknown,
    fun i a spi byte notRise => exec_portByte_ignored spi byte notRise,
    fun i x u spi kind opens rises => ?opens, fun i u row rises => ?row⟩
  case rise => rw [exec_csNRise high, riseCsN_notDue s notDue]; rfl
  case bad =>
    have read : (commandWritten code tag [] s).cmd 0 = code := putBytes_code code tag [] _ nofun
    refine congrArg Host.Outcome.next (hostCommand_eq_answered takes nofun (commandEffect_unknown ?_))
    rw [read]
    exact unknown
  case opening =>
    refine opening_bytes s ?_ a e₀ e₁ e₂ e₃
    simp only [List.mem_cons, Prod.mk.injEq, List.not_mem_nil, or_false] at mem
    rcases mem with ⟨rfl, rfl⟩ | ⟨rfl, rfl⟩ | ⟨rfl, rfl⟩ | ⟨rfl, rfl⟩ <;> rfl
  case opens =>
    cases (exec_csNRise high).symm.trans rises
    exact exec_opens_afterRise high spi kind opens
  case row =>
    cases (exec_csNRise high).symm.trans rises
    exact exec_row_afterRise high row

end Sys2Proof.Machine

/-! PROOFS. The port out of service (R43, R44), a command's row as its transactions (R190; log 8), register writes and
the register window (R184 to R188), and the claims the arbiter serves (R171 to R174). -/

namespace Sys2Proof.Machine

/-! ### RESET_N low, and LOADING -/

section
variable {s : State}

/-- With RESET_N low no byte of the host is received (R43). -/
theorem exec_portByte_held {i : Instr} (held : s.pins.resetHeld = true) (byte : isPortByte i = true) :
    exec i s = .next s := by
  rcases portByte_cases byte with ⟨b, reaches⟩ | ⟨first, v, rfl⟩ | ⟨first, rfl⟩ | ⟨code, rfl⟩ | rfl
  · obtain ⟨address, effect, _, row⟩ := exec_of_registerAddress reaches
    rw [row, registerByte_held held]
  · show Host.Outcome.next (((atDataByte 0x51#8 first s).map (writeMemoryByte v)).getD s) = _
    rw [atDataByte_held s _ _ held]
    rfl
  · show Host.Outcome.next (((atDataByte 0x52#8 first s).map readMemoryByte).getD s) = _
    rw [atDataByte_held s _ _ held]
    rfl
  · exact congrArg Host.Outcome.next (if_pos held)
  · exact congrArg Host.Outcome.next (if_pos held)

theorem exec_row_held {i : Instr} (held : s.pins.resetHeld = true) (row : commandRecord i ≠ none) :
    exec i s = .next s := by
  obtain ⟨bytes, record⟩ := Option.ne_none_iff_exists'.mp row
  obtain ⟨code, tag, params, effect, rfl, known⟩ := hostRow_of_record record
  rw [known.row]
  exact congrArg Host.Outcome.next (if_pos held)

/-- A GO byte where GO is not taken (R44, R190). -/
theorem writeGo_ignored (ignored : goTaken s = false) : writeGo s = s :=
  if_neg (by rw [ignored]; exact Bool.false_ne_true)

theorem goTaken_loading (loading : s.station.mode = .loading) : goTaken s = false := by
  simp [goTaken, loading]

end

/-- Settles O7: with RESET_N low no row reads the port, and in LOADING each row leaves what the port itself does. -/
theorem portOutOfService : Obligations.PortOutOfService := by
  refine ⟨fun i s held row => row.elim (exec_row_held held) (exec_portByte_held held), fun s high loading =>
    ⟨fun i bytes record => ?row, fun idle v => ?go, fun idle a v => ?firstWrite, fun idle a => ?firstRead,
      fun a v spi => ?write, fun a spi => ?read⟩⟩
  case row =>
    obtain ⟨code, tag, params, effect, rfl, known⟩ := hostRow_of_record record
    rw [known.row, hostCommand_loading code tag params s effect high loading]
    rfl
  case go =>
    have row : exec (.goWrite v) s = .next (registerByte 0x0F#16 writeGo s) := rfl
    rw [row, registerByte_first s writeGo _ high idle]
    exact congrArg Host.Outcome.next (writeGo_ignored (goTaken_loading loading))
  case firstWrite =>
    rw [exec_memoryWriteByte_first high idle, writeMemoryByte_loading (s := opened .memoryWrite a s) loading rfl]
    rfl
  case firstRead =>
    rw [exec_memoryReadByte_first high idle, readMemoryByte_loading (s := opened .memoryRead a s) loading rfl]
    rfl
  case write => rw [exec_memoryWriteByte_further high spi, writeMemoryByte_loading loading spi]
  case read => rw [exec_memoryReadByte_further high spi, readMemoryByte_loading loading spi]

/-! ### A command's row as its transactions -/

/-- A run of a machine begins with its step. -/
theorem run_of_step (machine : Host.Core) {n : Nat} {s t : machine.State} (steps : machine.step s = .next t) :
    machine.run (n + 1) s = machine.run n t := by
  rw [Host.Core.run, steps]

section
variable {s : State}

theorem core_run_succ {n : Nat} {i : Instr} {queue : List Instr} {t : State}
    (front : exec i { s with pending := queue } = .next t) :
    Sys2Proof.core.run (n + 1) { s with pending := i :: queue } = Sys2Proof.core.run n t := run_of_step Sys2Proof.core front

/-- CS_N is high, and no command waits for its next rise. -/
structure Quiet (s : State) : Prop where
  high : s.pins.resetHeld = false
  spi : s.port.spi = none
  so : s.port.so = none
  latch : s.port.latch = none
  claims : keptAtRise s.port.claims = s.port.claims
  settled : s.port.due = false ∨ s.station.mode = .loading

theorem riseCsN_quiet (high : s.pins.resetHeld = false) : Quiet (riseCsN s) := by
  have mailbox : (riseCsN s).mailbox =
      { (endTransaction s).mailbox with busy := (riseCsN s).port.busy, due := (riseCsN s).port.due } := by
    rcases waits_or_settled s with ⟨due, serves⟩ | settled
    · rw [riseCsN_due s due serves]
      exact takeCommand_mailbox (endTransaction s)
    · rw [riseCsN_of_settled settled]
      rfl
  have claims : (riseCsN s).port.claims = keptAtRise s.port.claims := congrArg Mailbox.claims mailbox
  exact
    { high := (riseCsN_resetHeld s).trans high
      spi := congrArg Mailbox.spi mailbox
      so := congrArg Mailbox.so mailbox
      latch := congrArg Mailbox.latch mailbox
      claims := by rw [claims, keptAtRise_keptAtRise]
      settled := riseCsN_settled s }

/-- A rise of CS_N at the front of the queue that finds no command to take. -/
theorem run_csNRise (high : s.pins.resetHeld = false) (settled : s.port.due = false ∨ s.station.mode = .loading) (n : Nat)
    (queue : List Instr) :
    Sys2Proof.core.run (n + 1) { s with pending := .csNRise :: queue } =
      Sys2Proof.core.run n { endTransaction s with pending := queue } := by
  refine core_run_succ ?_
  rw [exec_csNRise (s := { s with pending := queue }) high, riseCsN_of_settled (s := { s with pending := queue }) settled]
  rfl

section
variable (quiet : Quiet s)
include quiet

theorem Quiet.putCommand (bytes : List (Fin 16 × Byte)) : Quiet (putCommand bytes s) := { quiet with }

/-- A transaction that changes COMMAND bytes, BUSY and the due command leaves just that at its end. -/
theorem Quiet.endTransaction_setPort (command : Vector Byte 16) (busy due : Bool) (spi : Option Spi) (so : Option Byte) :
    endTransaction (s.setPort { s.port with command := command, busy := busy, due := due, spi := spi, so := so }) =
      s.setPort { s.port with command := command, busy := busy, due := due } := by
  simp only [endTransaction, State.setPort, quiet.spi, quiet.so, quiet.latch, quiet.claims]

/-- The row of a register write at the place of a COMMAND byte. -/
theorem exec_commandByte (i : Fin 16) (v : Byte) (queue : List Instr) :
    exec (.registerWrite (BitVec.ofNat 16 (0x10 + i.val)) v) { s with pending := queue } =
      .next { s.setPort { s.port with
        command := s.port.command.set i.val v, busy := s.port.busy, due := s.port.due
        spi := some { kind := .registerWrite, address := 0x10 + i.val + 1 }, so := some 0 } with pending := queue } := by
  have place : (BitVec.ofNat 16 (0x10 + i.val)).toNat = 0x10 + i.val := Nat.mod_eq_of_lt (by omega)
  have row : exec (.registerWrite (BitVec.ofNat 16 (0x10 + i.val)) v) { s with pending := queue } =
    .next (registerByte (BitVec.ofNat 16 (0x10 + i.val)) (writeRegister (BitVec.ofNat 16 (0x10 + i.val)).toNat v)
      { s with pending := queue }) := rfl
  have within : 0x10 ≤ 0x10 + i.val ∧ 0x10 + i.val ≤ 0x1F := by omega
  have index : (⟨0x10 + i.val - 0x10, by omega⟩ : Fin 16) = i := Fin.ext (by simp)
  rw [row, registerByte_first { s with pending := queue } _ _ quiet.high quiet.spi, place, writeRegister, dif_pos within,
    index]
  rfl

/-- A COMMAND byte written in a transaction of its own. -/
theorem run_commandByte (i : Fin 16) (v : Byte) (n : Nat) (queue : List Instr) :
    Sys2Proof.core.run (n + 2)
        { s with pending := .registerWrite (BitVec.ofNat 16 (0x10 + i.val)) v :: .csNRise :: queue } =
      Sys2Proof.core.run n { putCommand [(i, v)] s with pending := queue } := by
  rw [core_run_succ (exec_commandByte quiet i v (.csNRise :: queue)), run_csNRise ?_ ?_, quiet.endTransaction_setPort]
  · rfl
  · exact quiet.high
  · exact quiet.settled

end

/-- The COMMAND bytes given, each in a transaction of its own. -/
def byteWrites (bytes : List (Fin 16 × Byte)) : List Instr :=
  bytes.flatMap fun p => [.registerWrite (BitVec.ofNat 16 (0x10 + p.1.val)) p.2, .csNRise]

theorem run_byteWrites (bytes : List (Fin 16 × Byte)) (n : Nat) (queue : List Instr) {s : State} (quiet : Quiet s) :
    Sys2Proof.core.run (2 * bytes.length + n) { s with pending := byteWrites bytes ++ queue } =
      Sys2Proof.core.run n { putCommand bytes s with pending := queue } := by
  induction bytes generalizing s with
  | nil =>
    rw [List.length_nil, Nat.mul_zero, Nat.zero_add]
    rfl
  | cons p rest ih =>
    obtain ⟨i, v⟩ := p
    have count : 2 * ((i, v) :: rest).length + n = (2 * rest.length + n) + 2 := by
      rw [List.length_cons]
      omega
    rw [count]
    exact (run_commandByte quiet i v _ _).trans (ih (quiet.putCommand [(i, v)]))

/-- A command taken with BUSY set and due is the command taken with BUSY clear and none due. -/
theorem takeCommand_busy (s : State) :
    takeCommand commandEffect (s.setPort { s.port with command := s.port.command, busy := true, due := true }) =
      takeCommand commandEffect s := by
  have taken := takeCommand_withMailbox s { s.mailbox with busy := true, due := true } rfl
  rw [show ({ s.mailbox with busy := true, due := true } : Mailbox).free = s.mailbox.free from rfl,
    ← takeCommand_mailbox] at taken
  exact taken

section
variable (quiet : Quiet s)
include quiet

/-- What a transaction of no effect would change is back at its end. -/
theorem Quiet.endTransaction_self : endTransaction s = s :=
  quiet.endTransaction_setPort s.port.command s.port.busy s.port.due s.port.spi s.port.so

theorem exec_goByte (v : Byte) (queue : List Instr) :
    exec (.goWrite v) { s with pending := queue } =
      .next { s.setPort { s.port with
        command := s.port.command, busy := s.port.busy || goTaken s, due := s.port.due || goTaken s
        spi := some { kind := .registerWrite, address := 0x10 }, so := some 0 } with pending := queue } := by
  have row : exec (.goWrite v) { s with pending := queue } =
    .next (registerByte 0x0F#16 writeGo { s with pending := queue }) := rfl
  rw [row, registerByte_first { s with pending := queue } _ _ quiet.high quiet.spi]
  cases taken : goTaken s with
  | true =>
    rw [Bool.or_true, Bool.or_true]
    exact congrArg Host.Outcome.next (if_pos taken)
  | false =>
    rw [Bool.or_false, Bool.or_false]
    exact congrArg Host.Outcome.next (writeGo_ignored (by exact taken))

/-- GO written in a transaction of its own takes the command that stands in the COMMAND area, where GO is taken. -/
theorem run_goByte (v : Byte) (queue : List Instr) :
    Sys2Proof.core.run 2 { s with pending := .goWrite v :: .csNRise :: queue } =
      .next { (if goTaken s then takeCommand commandEffect s else s) with pending := queue } := by
  rw [core_run_succ (exec_goByte quiet v (.csNRise :: queue))]
  cases taken : goTaken s with
  | true =>
    have serves : s.station.mode ≠ .loading := fun loading => by
      rw [goTaken_loading loading] at taken
      cases taken
    rw [Bool.or_true, Bool.or_true]
    refine core_run_succ (t := { takeCommand commandEffect s with pending := queue }) ?_
    rw [exec_csNRise (by exact quiet.high), riseCsN_queue, riseCsN_due, quiet.endTransaction_setPort, takeCommand_busy]
    · rfl
    · exact serves
  | false =>
    rw [Bool.or_false, Bool.or_false, run_csNRise (by exact quiet.high) (by exact quiet.settled),
      quiet.endTransaction_setPort]
    rfl

end

end

/-- A command's row with RESET_N high: its bytes after the rise of CS_N, and the command where GO is taken. -/
theorem hostCommand_high {s : State} (high : s.pins.resetHeld = false) (code tag : Byte) (params : List (Fin 16 × Byte))
    (effect : State → Reply × State) :
    hostCommand code tag params effect s =
      if goTaken (commandWritten code tag params (riseCsN s)) then
        takeCommand effect (commandWritten code tag params (riseCsN s))
      else commandWritten code tag params (riseCsN s) :=
  if_neg (by rw [high]; exact Bool.false_ne_true)

/-- Settles O8: the rise leaves CS_N high with no command to take, the byte writes change the COMMAND area alone, and GO
takes the command its row takes. -/
theorem commandRowIsItsTransaction : Obligations.CommandRowIsItsTransaction := by
  intro s i bytes v rest record high
  obtain ⟨code, tag, params, effect, rfl, known⟩ := hostRow_of_record record
  have quiet : Quiet (riseCsN s) := riseCsN_quiet high
  have rise (queue : List Instr) : exec .csNRise { s with pending := queue } = .next { riseCsN s with pending := queue } := by
    rw [exec_csNRise, riseCsN_queue]
    exact high
  have run : Sys2Proof.core.run (2 * ([(0, code), (1, tag)] ++ params).length + 2 + 1) { s with
      pending := .csNRise :: byteWrites ([(0, code), (1, tag)] ++ params) ++ .goWrite v :: .csNRise :: rest } = _ :=
    (core_run_succ (rise _)).trans ((run_byteWrites _ 2 _ quiet).trans (run_goByte (quiet.putCommand _) v rest))
  refine run.trans ?_
  have written : commandWritten code tag params (riseCsN { s with pending := rest }) =
      { putCommand ([(0, code), (1, tag)] ++ params) (riseCsN s) with pending := rest } := by
    rw [riseCsN_queue]
    exact congrArg (fun t : State => { t with pending := rest }) (quiet.putCommand _).endTransaction_self
  have taken : goTaken (commandWritten code tag params (riseCsN { s with pending := rest })) =
      goTaken (putCommand ([(0, code), (1, tag)] ++ params) (riseCsN s)) := by
    rw [written]
    rfl
  rw [known.row, hostCommand_high (s := { s with pending := rest }) high, taken, known.takeCommand_eq, written,
    takeCommand_queue _ rest]
  split <;> rfl

end Sys2Proof.Machine

/-! PROOFS. Register writes and the register window as it reads (R184 to R188), and the claims the arbiter serves (R171
to R174, R183). -/

namespace Sys2Proof.Machine

/-! ### Register writes -/

section
variable {s : State}

/-- A register byte takes effect after its address has moved on, whether it opens its transaction or not (R184). -/
theorem registerByte_received (high : s.pins.resetHeld = false) {address : Word} (received : ReceivesAt s address.toNat)
    (effect : State → State) : registerByte address effect s = effect (s.atRegister address.toNat) :=
  received.elim (registerByte_first s effect address high) (registerByte_further s effect address high)

/-- A byte of the COMMAND area (R189). -/
theorem writeRegister_command (i : Fin 16) (v : Byte) : writeRegister (0x10 + i.val) v s = writeCommand i v s := by
  have within : 0x10 ≤ 0x10 + i.val ∧ 0x10 + i.val ≤ 0x1F := by omega
  have index : (⟨0x10 + i.val - 0x10, by omega⟩ : Fin 16) = i := Fin.ext (by simp)
  rw [writeRegister, dif_pos within, index]

/-- RO and unmapped bytes ignore what is written to them (R184). -/
theorem writeRegister_ignored {a : Word} (v : Byte) (not09 : a ≠ 0x09#16) (not0B : a ≠ 0x0B#16) (not0C : a ≠ 0x0C#16)
    (not0D : a ≠ 0x0D#16) (not0F : a ≠ 0x0F#16) (outside : a.toNat < 0x10 ∨ 0x1F < a.toNat) :
    writeRegister a.toNat v s = s := by
  unfold writeRegister
  rw [dif_neg (by omega)]
  split
  · rename_i at09 _
    exact absurd (BitVec.eq_of_toNat_eq at09) not09
  · rename_i at0B _
    exact absurd (BitVec.eq_of_toNat_eq at0B) not0B
  · rename_i at0C _
    exact absurd (BitVec.eq_of_toNat_eq at0C) not0C
  · rename_i at0D _
    exact absurd (BitVec.eq_of_toNat_eq at0D) not0D
  · rename_i at0F _
    exact absurd (BitVec.eq_of_toNat_eq at0F) not0F
  · rfl

theorem goTaken_of (serves : s.station.mode ≠ .loading) (free : s.port.busy = false) : goTaken s = true := by
  simp [goTaken, serves, free]

theorem goTaken_not (ignored : s.station.mode = .loading ∨ s.port.busy = true) : goTaken s = false := by
  rcases ignored with loading | busy
  · exact goTaken_loading loading
  · simp [goTaken, busy]

end

/-- Settles O39: each row is the register byte of its address, and its effect is that register's. -/
theorem registerWrites : Obligations.RegisterWrites := by
  intro s v high
  have row (address : Word) (effect : State → State) {i : Instr}
      (meaning : exec i s = .next (registerByte address effect s)) (received : ReceivesAt s address.toNat) :
      exec i s = .next (effect (s.atRegister address.toNat)) := by
    rw [meaning, registerByte_received high received]
  refine ⟨row 0x09#16 (writeNotice true v) rfl, row 0x08#16 (writeNotice false v) rfl,
    row 0x0B#16 (writeMask true v) rfl, row 0x0A#16 (writeMask false v) rfl, row 0x0C#16 (writeEnded v) rfl,
    row 0x0D#16 (writeProgress v) rfl, fun received => ?go,
    fun i received => ?command, fun a received not09 not0B not0C not0D not0F outside => ?others, rfl, rfl, rfl, rfl, rfl⟩
  case go =>
    refine ⟨fun serves free => ?taken, fun ignored => ?ignored⟩
    case taken =>
      rw [row 0x0F#16 writeGo (i := .goWrite v) rfl received]
      exact congrArg Host.Outcome.next (if_pos (goTaken_of (s := s.atRegister 0x0F) serves free))
    case ignored =>
      rw [row 0x0F#16 writeGo (i := .goWrite v) rfl received]
      exact congrArg Host.Outcome.next (writeGo_ignored (goTaken_not (s := s.atRegister 0x0F) ignored))
  case command =>
    have place : (BitVec.ofNat 16 (0x10 + i.val)).toNat = 0x10 + i.val := Nat.mod_eq_of_lt (by omega)
    rw [row (BitVec.ofNat 16 (0x10 + i.val)) (writeRegister (BitVec.ofNat 16 (0x10 + i.val)).toNat v)
        (i := .registerWrite _ v) rfl (by rwa [place]), place,
      writeRegister_command]
    rfl
  case others =>
    rw [row a (writeRegister a.toNat v) (i := .registerWrite a v) rfl received,
      writeRegister_ignored v not09 not0B not0C not0D not0F outside]

/-! ### The register window -/

/-- The bits of NOTICE (R186). -/
theorem noticeByte_bits (s : State) (n : Nat) (b : Bool)
    (bit : (n, b) ∈ [(0, s.port.notices.cmdDone), (1, s.port.ended != 0#8), (2, s.port.progress != 0#8),
        (3, s.port.notices.arrival), (4, s.port.notices.arrivalOverflow), (5, s.port.notices.peerChange),
        (6, s.port.notices.stateChange), (7, s.port.notices.config)]) : s.noticeByte.getLsbD n = b := by
  have bits : ∀ b₀ b₁ b₂ b₃ b₄ b₅ b₆ b₇ : Bool, ∀ p ∈ [(0, b₀), (1, b₁), (2, b₂), (3, b₃), (4, b₄), (5, b₅), (6, b₆),
      (7, b₇)], (byteOf (b₀.toNat + 2 * b₁.toNat + 4 * b₂.toNat + 8 * b₃.toNat + 16 * b₄.toNat + 32 * b₅.toNat +
        64 * b₆.toNat + 128 * b₇.toNat)).getLsbD p.1 = p.2 := by decide
  exact bits _ _ _ _ _ _ _ _ (n, b) bit

/-- Bits set one after another (R185). -/
theorem getLsbD_foldl_twoPow (places : List Nat) (acc : Byte) (n : Nat) (within : n < 8) :
    (places.foldl (fun b i => b ||| BitVec.twoPow 8 i) acc).getLsbD n = (acc.getLsbD n || decide (n ∈ places)) := by
  induction places generalizing acc with
  | nil => simp
  | cons i rest ih =>
    rw [List.foldl_cons, ih, BitVec.getLsbD_or, BitVec.getLsbD_twoPow]
    by_cases here : n = i
    · subst here
      simp [within]
    · simp [here, Ne.symm here]

/-- PRESENT_MAP holds a bit for each PRESENT station, station 0 in the lowest bit of its last byte (R73, R185). -/
theorem presentByte_bit (s : State) (p : StationNo) :
    (presentByte s (3 - p.val / 8)).getLsbD (p.val % 8) = s.present p := by
  have within : p.val % 8 < 8 := Nat.mod_lt _ (by decide)
  have place : Fin.ofNat 32 (8 * (3 - (3 - p.val / 8)) + p.val % 8) = p :=
    Fin.ext (show (8 * (3 - (3 - p.val / 8)) + p.val % 8) % 32 = p.val by omega)
  rw [presentByte, getLsbD_foldl_twoPow _ _ _ within]
  simp only [List.mem_filter, List.mem_range, within, place, true_and, Bool.decide_eq_true]
  simp

theorem intLow_iff (s : State) :
    s.intLow = true ↔ s.pins.resetHeld = false ∧
      ∃ n, n < 8 ∧ s.noticeByte.getLsbD n = true ∧ s.port.mask.getLsbD n = true := by
  have set : (s.noticeByte &&& s.port.mask) ≠ 0#8 ↔
      ∃ n, n < 8 ∧ s.noticeByte.getLsbD n = true ∧ s.port.mask.getLsbD n = true := by
    rw [← not_iff_not, not_not]
    constructor
    · rintro zero ⟨n, _, notice, mask⟩
      have bit := congrArg (fun b : Byte => b.getLsbD n) zero
      simp [notice, mask] at bit
    · intro none
      refine BitVec.eq_of_getLsbD_eq fun n within => ?_
      rw [BitVec.getLsbD_and, BitVec.getLsbD_zero, ← Bool.not_eq_true, Bool.and_eq_true]
      exact fun both => none ⟨n, within, both⟩
  rw [State.intLow, Bool.and_eq_true, bne_iff_ne, set, Bool.not_eq_true']

theorem readRegister_command (s : State) (i : Fin 16) : readRegister s (0x10 + i.val) = s.port.command[i.val] := by
  have within : 0x10 ≤ 0x10 + i.val ∧ 0x10 + i.val ≤ 0x1F := by omega
  unfold readRegister
  rw [if_pos within]
  simp

theorem readRegister_result (s : State) (i : Fin 16) : readRegister s (0x20 + i.val) = s.port.result[i.val] := by
  have above : ¬(0x10 ≤ 0x20 + i.val ∧ 0x20 + i.val ≤ 0x1F) := by omega
  have within : 0x20 ≤ 0x20 + i.val ∧ 0x20 + i.val ≤ 0x2F := by omega
  unfold readRegister
  rw [if_neg above, if_pos within]
  simp

theorem readRegister_presentMap (s : State) (p : StationNo) :
    readRegister s (0x33 - p.val / 8) = presentByte s (3 - p.val / 8) := by
  have place : 0x33 - p.val / 8 - 0x30 = 3 - p.val / 8 := by omega
  unfold readRegister
  rw [if_neg (by omega), if_neg (by omega), if_pos (by omega), place]

theorem readRegister_above (s : State) {a : Nat} (above : 0x33 < a) : readRegister s a = 0#8 := by
  unfold readRegister
  rw [if_neg (by omega), if_neg (by omega), if_neg (by omega)]
  split <;> first | omega | rfl

/-- Settles O40: the addresses one by one, and the bits of the two registers that hold bits. -/
theorem registerWindowReads : Obligations.RegisterWindowReads := by
  intro s
  refine ⟨rfl, rfl, rfl, rfl, rfl, rfl, rfl, byteOf_toNat_bool _, rfl, fun n b => noticeByte_bits s n b, rfl, rfl, rfl, rfl,
    rfl, rfl, fun i => ⟨readRegister_command s i, readRegister_result s i⟩, fun p => ?map,
    fun a => readRegister_above s, intLow_iff s⟩
  rw [readRegister_presentMap, presentByte_bit]
  rfl

/-! ### The arbiter's turn -/

/-- The claimant served next, by the pointer and by who presents a claim (R173). -/
def turnOf (pointer : Claimant) (host channels responders : Bool) : Option Claimant :=
  (claimantsAfter pointer).find? fun who =>
    match who with
    | .host => host
    | .channels => channels
    | .responders => responders

theorem nextClaimant_eq (s : State) : nextClaimant s = turnOf s.buffer.pointer (!s.port.claims.isEmpty)
    (!s.chans.claims.isEmpty) (!s.ctxs.claims.isEmpty) := by
  have same : presents s = fun who => match who with
      | .host => !s.port.claims.isEmpty
      | .channels => !s.chans.claims.isEmpty
      | .responders => !s.ctxs.claims.isEmpty := by
    funext who
    cases who <;> rfl
  rw [nextClaimant, same]
  rfl

/-- Each claimant's turn, said of the three (R173). -/
theorem turnOf_iff (pointer : Claimant) (h c r : Bool) :
    (turnOf pointer h c r = some .host ↔ h = true ∧ (pointer = .responders ∨ (pointer = .channels ∧ r = false) ∨
        (pointer = .host ∧ c = false ∧ r = false))) ∧
      (turnOf pointer h c r = some .channels ↔ c = true ∧ (pointer = .host ∨ (pointer = .responders ∧ h = false) ∨
        (pointer = .channels ∧ h = false ∧ r = false))) ∧
      (turnOf pointer h c r = some .responders ↔ r = true ∧ (pointer = .channels ∨ (pointer = .host ∧ c = false) ∨
        (pointer = .responders ∧ h = false ∧ c = false))) := by
  cases pointer <;> revert h c r <;> decide

/-- The arbiter's next claimant is the one in turn (R172, R173). -/
theorem nextClaimant_iff (s : State) (who : Claimant) : nextClaimant s = some who ↔ InTurn s who := by
  have present {α : Type} (claims : List α) : (!claims.isEmpty) = true ↔ claims ≠ [] := by cases claims <;> simp
  have absent {α : Type} (claims : List α) : (!claims.isEmpty) = false ↔ claims = [] := by cases claims <;> simp
  obtain ⟨host, channels, responders⟩ := turnOf_iff s.buffer.pointer (!s.port.claims.isEmpty) (!s.chans.claims.isEmpty)
    (!s.ctxs.claims.isEmpty)
  simp only [present, absent] at host channels responders
  rw [nextClaimant_eq]
  cases who with
  | host => exact host
  | channels => exact channels
  | responders => exact responders

/-! ### What is read and stored -/

theorem memRead_reads (m : List Host.Cell) (address length : Nat) : Reads m address length (memRead m address length) := by
  refine ⟨memRead_length m address length, ?_⟩
  induction length generalizing address with
  | zero => exact fun i above => absurd above (Nat.not_lt_zero i)
  | succ length ih =>
    intro i within
    cases i with
    | zero => rfl
    | succ i =>
      have rest := ih (address + 1) i (Nat.lt_of_succ_lt_succ within)
      rw [show address + 1 + i = address + (i + 1) by omega] at rest
      exact rest

theorem memPut_stores {m : List Host.Cell} (canonical : Memory.wf m = true) (address : Nat) (v : Byte) :
    Stores m (memPut m (address % 65536) v) address [v] := by
  intro a within
  rw [memGet_memPut _ _ _ canonical]
  by_cases here : a = address % 65536
  · have start : (a + 65536 - address % 65536) % 65536 = 0 := by omega
    rw [if_pos here, start]
    rfl
  · have away : (a + 65536 - address % 65536) % 65536 ≠ 0 := by omega
    obtain ⟨n, later⟩ := Nat.exists_eq_succ_of_ne_zero away
    rw [if_neg here, later]
    rfl

/-! ### The claims served -/

section
variable {s : State}

theorem serveInTurn_of {who : Claimant} (turn : InTurn s who) : serveInTurn who s = serve who s :=
  if_pos ((nextClaimant_iff s who).mpr turn)

theorem serveInTurn_not {who : Claimant} (notTurn : ¬InTurn s who) : serveInTurn who s = s :=
  if_neg fun next => notTurn ((nextClaimant_iff s who).mp next)

theorem serveHost_read {a : Nat} {rest : List HostClaim} (oldest : s.port.claims = .read a :: rest) :
    serveHost s = (s.setPort { s.port with so := some (memGet s.buffer.cells (a % 65536)), claims := rest }).setBuffer
      { s.buffer with pointer := .host } := by
  unfold serveHost
  rw [oldest]
  rfl

theorem serveHost_write {a : Nat} {v : Byte} {rest : List HostClaim} (oldest : s.port.claims = .write a v :: rest) :
    serveHost s = (s.setPort { s.port with claims := rest }).setBuffer
      { cells := memPut s.buffer.cells (a % 65536) v, pointer := .host } := by
  unfold serveHost
  rw [oldest]
  rfl

theorem serveChannel_eq {cl : ChannelClaim} {rest : List ChannelClaim} (oldest : s.chans.claims = cl :: rest) :
    serveChannel s = ((s.setChans { s.chans with claims := rest }).setChannel cl.ch
      { s.channel cl.ch with
        heldFrame := { payload := memRead s.buffer.cells cl.address cl.length, tgl := (s.channel cl.ch).toggle },
        built := true }).setBuffer { s.buffer with pointer := .channels } := by
  unfold serveChannel
  rw [oldest]
  rfl

theorem isFinal_eq (x : Context) (length : Nat) :
    x.isFinal length = decide (x.moved + length = x.amount ∧ (length < 16 * 2 ^ x.sizeCode ∨ x.amount = x.total)) := by
  rw [Bool.eq_iff_iff]
  simp only [Context.isFinal, Bool.and_eq_true, Bool.or_eq_true, beq_iff_eq, decide_eq_true_iff]
  exact Iff.rfl

theorem serveContext_eq {cl : ContextClaim} {rest : List ContextClaim} (oldest : s.ctxs.claims = cl :: rest) :
    serveContext s = ((s.setCtxs { s.ctxs with claims := rest }).setContext cl.slot
      { s.context cl.slot with
        heldFrame := { payload := memRead s.buffer.cells cl.address cl.length, tgl := (s.context cl.slot).toggle },
        built := true, attempts := 0,
        finalMark := (s.context cl.slot).isFinal (memRead s.buffer.cells cl.address cl.length).length }).setBuffer
          { s.buffer with pointer := .responders } := by
  unfold serveContext
  rw [oldest]
  rfl

end

/-- Settles O38: in turn each claimant's oldest claim is served, and out of turn nothing is. -/
theorem claimsServed : Obligations.ClaimsServed := by
  intro s canonical
  have row {who : Claimant} {i : Instr} (meaning : exec i s = .next (serveInTurn who s)) (turn : InTurn s who) :
      exec i s = .next (serve who s) := by rw [meaning, serveInTurn_of turn]
  have idle {who : Claimant} {i : Instr} (meaning : exec i s = .next (serveInTurn who s)) (notTurn : ¬InTurn s who) :
      exec i s = .next s := by rw [meaning, serveInTurn_not notTurn]
  refine ⟨fun turn => ⟨fun a rest oldest => ?read, fun a v rest oldest => ?write⟩, fun turn cl rest oldest => ?channel,
    fun turn cl rest x oldest read => ?context, idle rfl, idle rfl, idle rfl⟩
  case read => exact (row (i := .hostClaimServed) rfl turn).trans (congrArg _ (serveHost_read oldest))
  case write =>
    exact ⟨_, memPut_stores canonical a v, (row (i := .hostClaimServed) rfl turn).trans (congrArg _ (serveHost_write oldest))⟩
  case channel =>
    exact ⟨_, memRead_reads _ _ _, (row (i := .channelReadClaimServed) rfl turn).trans (congrArg _ (serveChannel_eq oldest))⟩
  case context =>
    subst read
    have final := isFinal_eq (s.context cl.slot) (memRead s.buffer.cells cl.address cl.length).length
    have served := serveContext_eq oldest
    rw [final, memRead_length] at served
    exact ⟨_, memRead_reads _ _ _, (row (i := .contextReadClaimServed) rfl turn).trans (congrArg _ served)⟩

end Sys2Proof.Machine

/-! PROOFS. The station commands, the window commands, DROP_CONTEXT and the reports (R50 to R59, R74, R77 to R80, R90,
R102, R168, R169). -/

namespace Sys2Proof.Machine

/-! ### What a command answers -/

section
variable {code tag : Byte} {params : List (Fin 16 × Byte)} {effect : State → Reply × State} {s : State} {r : Reply}

/-- A command whose effect is a blind operation answers in the state that the operation leaves (R190, R191). -/
theorem hostCommand_of_blind {f : State → State} (blind : Blind f) (takes : HostTakes s)
    (above : ∀ p ∈ params, 2 ≤ p.1.val)
    (outcome : effect (commandWritten code tag params s) = (r, f (commandWritten code tag params s))) :
    hostCommand code tag params effect s = (f s).answered code tag params r :=
  hostCommand_eq_answered takes above (by rw [outcome, blind.commandWritten])

/-- A command that only answers. -/
theorem hostCommand_answers (takes : HostTakes s) (above : ∀ p ∈ params, 2 ≤ p.1.val)
    (outcome : effect (commandWritten code tag params s) = (r, commandWritten code tag params s)) :
    hostCommand code tag params effect s = s.answered code tag params r :=
  hostCommand_eq_answered takes above outcome

end

/-! ### JOIN and RESTART -/

theorem peersCleared_zero {t : State} {own : StationNo} (cleared : t.peers = PeerTable.cleared own 0) :
    t.peers.presenceTimer = none ∧ ∀ p, t.peer p =
      { state := if p = own then .self else .absent, announced := none, expiry := none, openWindows := 0,
        freeContexts := 0, joinCount := 0 } := by
  refine ⟨by rw [cleared]; rfl, fun p => ?_⟩
  have entry : t.peer p = if p = own then Peer.ofSelf 0 else Peer.cleared := by
    simp only [State.peer, cleared, PeerTable.cleared, Vector.getElem_ofFn]
  rw [entry]
  split <;> rfl

/-- RESTART leaves the line side at its RESTART values, in the state that AUTO_JOIN asks for (R58, R60, R93, R142, R196). -/
theorem restartStation_restarted (s : State) : Restarted s (restartStation s) := by
  have asks : (restartClear s).station.conf.autoJoin = s.station.conf.autoJoin := rfl
  unfold restartStation enterFirstMode
  cases auto : s.station.conf.autoJoin <;> rw [asks, auto]
  case true =>
    rw [if_pos rfl]
    exact
      { station := by rw [auto]; rfl, lau := by rw [auto]; rfl, peers := peersCleared_zero rfl
        channels := fun _ => rfl, contexts := fun _ => rfl, rest := rfl }
  case false =>
    rw [if_neg Bool.false_ne_true]
    exact
      { station := by rw [auto]; rfl, lau := by rw [auto]; rfl, peers := peersCleared_zero rfl
        channels := fun _ => rfl, contexts := fun _ => rfl, rest := rfl }

/-- Settles O42. -/
theorem joinAndRestart : Obligations.JoinAndRestart := by
  intro s tag takes
  refine ⟨fun offline => ?join, fun elsewhere => ?refused, restartStation s, restartStation_restarted s, ?restart⟩
  case join =>
    exact congrArg Host.Outcome.next (hostCommand_of_blind (effect := joinEffect) enterListening_blind takes nofun
      (if_pos offline))
  case refused =>
    exact congrArg Host.Outcome.next (hostCommand_answers (effect := joinEffect) takes nofun (if_neg elsewhere))
  case restart =>
    have state : (restartStation s).modeByte = if s.station.conf.autoJoin then 2#8 else 1#8 := by
      rw [State.modeByte, (restartStation_restarted s).station]
      cases s.station.conf.autoJoin <;> rfl
    refine congrArg Host.Outcome.next (hostCommand_eq_answered (effect := restartEffect) takes nofun ?_)
    rw [restartEffect, restartStation_blind.commandWritten, ← state]
    rfl

/-! ### WITHDRAW -/

theorem withdrawEffect_taken {s : State} (may : s.station.mode.mayWithdraw = true) :
    withdrawEffect s = (.ok [(withdrawn s).modeByte], withdrawn s) := if_pos may

/-- Settles O43. -/
theorem withdraw : Obligations.Withdraw := by
  intro s tag takes
  have row {u : State} {b : Byte} (may : s.station.mode.mayWithdraw = true) (leaves : withdrawn s = u)
      (state : byteOf u.station.mode.code = b) :
      exec (.withdraw tag) s = .next (u.answered 0x02#8 tag [] (.ok [b])) := by
    subst leaves state
    refine congrArg Host.Outcome.next (hostCommand_eq_answered (effect := withdrawEffect) takes nofun ?_)
    rw [withdrawEffect_taken (s := commandWritten _ tag [] s) may, withdrawn_blind.commandWritten]
    rfl
  refine ⟨fun leaves => ⟨withdrawAtOnce s, withdrawAtOnce_enters s, ?atOnce⟩,
    fun online idle => ⟨enterWithdrawing s, enterWithdrawing_enters s, ?withdrawing⟩, fun modes sends => ?pends,
    fun mode => ?again, fun modes => ?refused⟩
  case atOnce =>
    have state : (withdrawAtOnce s).station.mode = .withdrawn := by rw [(withdrawAtOnce_enters s).station]; rfl
    rcases leaves with mode | mode | ⟨mode, idle⟩
    all_goals refine row (by rw [mode]; rfl) ?_ (by rw [state]; rfl)
    all_goals simp only [withdrawn, mode]
    exact if_neg (by rw [idle]; exact Bool.false_ne_true)
  case withdrawing =>
    have state : (enterWithdrawing s).station.mode = .withdrawing := by rw [(enterWithdrawing_enters s).station]
    refine row (by rw [online]; rfl) ?_ (by rw [state]; rfl)
    simp only [withdrawn, online, idle, Bool.false_eq_true, if_false]
  case pends =>
    have leaves : withdrawn s = pendWithdrawal s := by
      rcases modes with mode | mode <;> simp only [withdrawn, mode, sends, if_true]
    have may : s.station.mode.mayWithdraw = true := by rcases modes with mode | mode <;> rw [mode] <;> rfl
    exact row may leaves rfl
  case again =>
    refine row (by rw [mode]; rfl) ?_ (by rw [mode]; rfl)
    simp only [withdrawn, mode]
  case refused =>
    refine congrArg Host.Outcome.next (hostCommand_answers (effect := withdrawEffect) takes nofun (if_neg ?_))
    rcases modes with mode | mode
    all_goals rw [commandWritten_station, mode]; decide

/-! ### Checks in order -/

section
variable {α : Type}

theorem firstFails_cons {check : Prop} {outcome r : α} {rest : List (Prop × α)} :
    FirstFails ((check, outcome) :: rest) r ↔ (¬check ∧ r = outcome) ∨ (check ∧ FirstFails rest r) := Iff.rfl

theorem allPass_cons {check : Prop} {outcome : α} {rest : List (Prop × α)} :
    AllPass ((check, outcome) :: rest) ↔ check ∧ AllPass rest := List.forall_mem_cons

theorem allPass_nil : AllPass ([] : List (Prop × α)) := nofun

theorem allPass_append {first rest : List (Prop × α)} : AllPass (first ++ rest) ↔ AllPass first ∧ AllPass rest :=
  List.forall_mem_append

end

/-! ### OPEN_WINDOW -/

/-- The bytes of OPEN_WINDOW as the COMMAND area holds them (10_host_port.md 10.4). -/
structure OpenWindowRead (s : State) (id sizeCode access : Byte) (base : Word) (mask : BitVec 32) (valid : Word) :
    Prop where
  id : s.cmd 2 = id
  sizeCode : s.cmd 3 = sizeCode
  access : s.cmd 4 = access
  base : s.cmdWord 6 7 = base
  mask : s.cmdMask = mask
  valid : s.cmdWord 12 13 = valid

theorem openWindow_read (s : State) (code tag id sizeCode access : Byte) (base : Word) (mask : BitVec 32) (valid : Word) :
    OpenWindowRead (commandWritten code tag (openWindowBytes id sizeCode access base mask valid) s) id sizeCode access base
      mask valid := by
  have area (i : Fin 16) := cmd_commandWritten code tag (openWindowBytes id sizeCode access base mask valid) s i
  constructor
  · rw [area]; simp [openWindowBytes, wordAt, putBytes]
  · rw [area]; simp [openWindowBytes, wordAt, putBytes]
  · rw [area]; simp [openWindowBytes, wordAt, putBytes]
  · rw [State.cmdWord, area, area, ← word_hi_lo base]; simp [openWindowBytes, wordAt, putBytes, word_hi_lo]
  · rw [State.cmdMask, area, area, area, area, ← dword_bytes mask]; simp [openWindowBytes, wordAt, putBytes, dword_bytes]
  · rw [State.cmdWord, area, area, ← word_hi_lo valid]; simp [openWindowBytes, wordAt, putBytes, word_hi_lo]

/-- Of a rising list the lowest place that meets a condition is the one found. -/
theorem find?_lowest {n : Nat} {places : List (Fin n)} (rising : places.Pairwise (· < ·)) {p : Fin n → Bool} {w : Fin n}
    (mem : w ∈ places) (meets : p w = true) (lowest : ∀ v, v < w → p v = false) : places.find? p = some w := by
  induction places with
  | nil => cases mem
  | cons x rest ih =>
    obtain ⟨below, rising⟩ := List.pairwise_cons.mp rising
    rcases List.mem_cons.mp mem with rfl | later
    · exact List.find?_cons_of_pos meets
    · rw [List.find?_cons_of_neg (by rw [lowest x (below w later)]; exact Bool.false_ne_true)]
      exact ih rising later

theorem meetsOpen_iff (base size : Nat) (w : Window) : meetsOpen base size w = true ↔ Meets base size w := by
  simp only [meetsOpen, Bool.and_eq_true, decide_eq_true_iff]
  exact Iff.rfl

section
variable {s : State} {base size : Nat}

theorem firstOverlap_lowest {w : Fin 8} (meets : Meets base size (s.window w))
    (lowest : ∀ v, v < w → ¬Meets base size (s.window v)) : firstOverlap s base size = some w :=
  find?_lowest (by decide) (mem_allWindows w) ((meetsOpen_iff ..).mpr meets) fun v below =>
    Bool.eq_false_of_not_eq_true fun open' => lowest v below ((meetsOpen_iff ..).mp open')

theorem firstOverlap_none (free : ∀ w, ¬Meets base size (s.window w)) : firstOverlap s base size = none :=
  List.find?_eq_none.mpr fun w _ meets => free w ((meetsOpen_iff ..).mp meets)

end

section
variable {s : State} {id sizeCode access : Byte} {base : Word} {mask : BitVec 32} {valid : Word}

/-- The first three checks of OPEN_WINDOW, of the id, the size code and the access (R77). -/
structure OpenNames (id sizeCode access : Byte) : Prop where
  id : id.toNat ≤ 7
  size : sizeCode.toNat ≤ 7
  access : access = 1#8 ∨ access = 2#8

/-- The entry that OPEN_WINDOW is to write passes the checks that R77 makes of it before the one of overlaps. -/
structure OpenFits (s : State) (id : Fin 8) (w : Window) : Prop where
  free : (s.window id).isOpen = false
  aligned : w.base % w.size = 0
  within : w.base + w.size ≤ 65536
  valid : w.valid ≤ w.size

theorem openRefusal_fits {w : Fin 8} {x : Window} (fits : OpenFits s w x) :
    openRefusal s w x = (firstOverlap s x.base x.size).map fun k => .refused .overlap k.val := by
  unfold openRefusal
  rw [if_neg (by rw [fits.free]; exact Bool.false_ne_true), if_neg (not_not.mpr fits.aligned),
    if_neg (Nat.not_lt_of_le fits.within), if_neg (Nat.not_lt_of_le fits.valid)]

section
variable (read : OpenWindowRead s id sizeCode access base mask valid)
include read

theorem openWindowEffect_refuses (names : OpenNames id sizeCode access) {r : Reply}
    (refuses : openRefusal s (Fin.ofNat 8 id.toNat) (openedWindow sizeCode access base mask valid) = some r) :
    openWindowEffect s = (r, s) := by
  have known : ¬(access ≠ 1#8 ∧ access ≠ 2#8) := fun neither => names.access.elim neither.1 neither.2
  unfold openWindowEffect
  rw [read.id, read.sizeCode, read.access, read.base, read.mask, read.valid, windowNo_of_le names.id]
  simp only [if_neg (Nat.not_lt_of_le names.size), if_neg known, refuses]

theorem openWindowEffect_opens (names : OpenNames id sizeCode access)
    (passes : openRefusal s (Fin.ofNat 8 id.toNat) (openedWindow sizeCode access base mask valid) = none) {u : State}
    (writes : u = s.setWindow (Fin.ofNat 8 id.toNat) (openedWindow sizeCode access base mask valid)) :
    openWindowEffect s = (.ok [byteOf u.openCount], u) := by
  have known : ¬(access ≠ 1#8 ∧ access ≠ 2#8) := fun neither => names.access.elim neither.1 neither.2
  unfold openWindowEffect
  rw [read.id, read.sizeCode, read.access, read.base, read.mask, read.valid, windowNo_of_le names.id]
  simp only [if_neg (Nat.not_lt_of_le names.size), if_neg known, passes, writes]

/-- OPEN_WINDOW's checks of an entry but the last are those of R77, in their order. -/
theorem openWindowEffect_refused {r : Reply} (fails : FirstFails (openChecks s id sizeCode access base valid) r) :
    openWindowEffect s = (r, s) := by
  simp only [openChecks, firstFails_cons] at fails
  rcases fails with ⟨large, rfl⟩ | ⟨idSmall, ⟨large, rfl⟩ | ⟨sizeSmall, ⟨unknown, rfl⟩ | ⟨known, fails⟩⟩⟩
  · unfold openWindowEffect
    rw [read.id, windowNo_of_not_le large]
  · unfold openWindowEffect
    rw [read.id, read.sizeCode, windowNo_of_le idSmall]
    exact if_pos (Nat.lt_of_not_le large)
  · unfold openWindowEffect
    rw [read.id, read.sizeCode, read.access, windowNo_of_le idSmall]
    exact (if_neg (Nat.not_lt_of_le sizeSmall)).trans (if_pos (not_or.mp unknown))
  · refine openWindowEffect_refuses read ⟨idSmall, sizeSmall, known⟩ ?_
    unfold openRefusal
    rcases fails with ⟨opened, rfl⟩ | ⟨free, ⟨odd, rfl⟩ | ⟨aligned, ⟨above, rfl⟩ | ⟨within, ⟨long, rfl⟩ | ⟨_, never⟩⟩⟩⟩
    · exact if_pos (Bool.eq_true_of_not_eq_false opened)
    all_goals refine (if_neg (by rw [free]; exact Bool.false_ne_true)).trans ?_
    · exact if_pos odd
    all_goals refine (if_neg (not_not.mpr aligned)).trans ?_
    · exact if_pos (Nat.lt_of_not_le above)
    · exact (if_neg (Nat.not_lt_of_le within)).trans (if_pos (Nat.lt_of_not_le long))
    · exact never.elim

end

theorem openChecks_pass (passes : AllPass (openChecks s id sizeCode access base valid)) (mask : BitVec 32) :
    OpenNames id sizeCode access ∧
      OpenFits s (Fin.ofNat 8 id.toNat) (openedWindow sizeCode access base mask valid) := by
  simp only [openChecks, allPass_cons] at passes
  obtain ⟨idSmall, sizeSmall, known, free, aligned, within, long, _⟩ := passes
  exact ⟨⟨idSmall, sizeSmall, known⟩, ⟨free, aligned, within, long⟩⟩

end

theorem exec_openWindow {s u : State} {tag id sizeCode access : Byte} {base : Word} {mask : BitVec 32} {valid : Word}
    {r : Reply} (takes : HostTakes s)
    (outcome : openWindowEffect (commandWritten 0x10#8 tag (openWindowBytes id sizeCode access base mask valid) s) =
      (r, commandWritten 0x10#8 tag (openWindowBytes id sizeCode access base mask valid) u)) :
    exec (.openWindow tag id sizeCode access base mask valid) s =
      .next (u.answered 0x10#8 tag (openWindowBytes id sizeCode access base mask valid) r) :=
  congrArg Host.Outcome.next (hostCommand_eq_answered takes (by simp [openWindowBytes, wordAt]) outcome)

/-- The checks read the Window Table as it stood before the command. -/
theorem openChecks_commandWritten (code tag : Byte) (params : List (Fin 16 × Byte)) (s : State)
    (id sizeCode access : Byte) (base valid : Word) :
    openChecks (commandWritten code tag params s) id sizeCode access base valid =
      openChecks s id sizeCode access base valid := by
  simp only [openChecks, commandWritten_window]

theorem firstOverlap_commandWritten (code tag : Byte) (params : List (Fin 16 × Byte)) (s : State) (base size : Nat) :
    firstOverlap (commandWritten code tag params s) base size = firstOverlap s base size := by
  simp only [firstOverlap, commandWritten_window]

theorem commandWritten_setWindow (code tag : Byte) (params : List (Fin 16 × Byte)) (s : State) (w : Fin 8) (x : Window) :
    commandWritten code tag params (s.setWindow w x) = (commandWritten code tag params s).setWindow w x := rfl

theorem openCount_commandWritten (code tag : Byte) (params : List (Fin 16 × Byte)) (s : State) :
    (commandWritten code tag params s).openCount = s.openCount := by
  simp only [State.openCount, commandWritten_window]

/-- Settles O44: the effect's checks are those of R77 in their order, read at the bytes the row writes. -/
theorem openWindow : Obligations.OpenWindow := by
  intro s tag id sizeCode access base mask valid params takes places
  have same : params = openWindowBytes id sizeCode access base mask valid := places
  subst same
  clear places
  have read := openWindow_read s 0x10#8 tag id sizeCode access base mask valid
  refine ⟨fun r fails =>
    exec_openWindow takes (openWindowEffect_refused read (by rwa [openChecks_commandWritten])), fun passes => ?pass⟩
  obtain ⟨names, fits⟩ := openChecks_pass passes mask
  have written : OpenFits (commandWritten 0x10#8 tag (openWindowBytes id sizeCode access base mask valid) s)
      (Fin.ofNat 8 id.toNat) (openedWindow sizeCode access base mask valid) :=
    ⟨by rw [commandWritten_window]; exact fits.free, fits.aligned, fits.within, fits.valid⟩
  have checks := openRefusal_fits written
  rw [firstOverlap_commandWritten] at checks
  refine ⟨fun w meets lowest => ?overlap, fun free u writes => ?opens⟩
  case overlap =>
    refine exec_openWindow takes (openWindowEffect_refuses read names ?_)
    rw [checks]
    exact congrArg (Option.map _) (firstOverlap_lowest meets lowest)
  case opens =>
    have access' : accessOf access = if access = 1#8 then .readOnly else .readWrite := by
      rcases names.access with rfl | rfl <;> rfl
    rw [← access'] at writes
    subst writes
    have passes := checks.trans (congrArg (Option.map _) (firstOverlap_none free))
    have outcome := openWindowEffect_opens read names passes rfl
    rw [← commandWritten_setWindow, openCount_commandWritten] at outcome
    exact exec_openWindow takes outcome

/-! ### CLOSE_WINDOW, DROP_CONTEXT -/

theorem windowNo_of_toNat_eq {n : Byte} {w : Fin 8} (number : n.toNat = w.val) : windowNo n = some w := by
  have small : n.toNat < 8 := number ▸ w.isLt
  rw [windowNo, dif_pos small]
  exact congrArg some (Fin.ext number)

theorem slotNo_of_toNat_eq {n : Byte} {k : SlotNo} (number : n.toNat = k.val) : slotNo n = some k := by
  have small : n.toNat < 4 := number ▸ k.isLt
  rw [slotNo, dif_pos small]
  exact congrArg some (Fin.ext number)

theorem slotNo_of_gt {n : Byte} (large : 3 < n.toNat) : slotNo n = none := dif_neg (Nat.not_lt_of_le large)

theorem activeOn_eq (s : State) (w : Fin 8) : activeOn s w = contextsOn s w := by
  simp only [activeOn, contextsOn, onWindow, Bool.and_assoc]

theorem ContextsOnly.eq_of_notices {s t : State} {notices : Notices} (only : ContextsOnly s t) (windows : t.windows = s.windows)
    (notes : t.port.notices = notices) :
    t = ((s.setCtxs t.ctxs).setArrivals t.arrivals).setPort { s.port with notices := notices } := by
  unfold ContextsOnly at only
  rw [windows, notes] at only
  exact only

/-- CLOSE_WINDOW's request to the engine changes contexts, the Arrival Queue and the notices (R165). -/
theorem contextsWindowClosed_rest (s : State) (w : Fin 8) :
    contextsWindowClosed w s = ((s.setCtxs (contextsWindowClosed w s).ctxs).setArrivals
      (contextsWindowClosed w s).arrivals).setPort { s.port with
        notices := s.port.notices.taking s.arrivals (s.recordsOf (onWindow w) .windowClosed) } := by
  have only := contextsWindowClosed_only s w
  unfold contextsWindowClosed at only ⊢
  obtain ⟨_, notices, windows⟩ := contexts_take (onWindow w) .windowClosed false (by decide) s
  generalize allSlots.foldl (endWhere (onWindow w) .windowClosed false) s = t at only notices windows ⊢
  exact only.eq_of_notices windows notices

section
variable {s : State} {tag n : Byte} {u : State} {r : Reply}

theorem exec_closeWindow (takes : HostTakes s)
    (outcome : closeWindowEffect (commandWritten 0x11#8 tag [(2, n)] s) = (r, commandWritten 0x11#8 tag [(2, n)] u)) :
    exec (.closeWindow tag n) s = .next (u.answered 0x11#8 tag [(2, n)] r) :=
  congrArg Host.Outcome.next (hostCommand_eq_answered takes (by simp) outcome)

theorem exec_dropContext (takes : HostTakes s)
    (outcome : dropContextEffect (commandWritten 0x31#8 tag [(2, n)] s) = (r, commandWritten 0x31#8 tag [(2, n)] u)) :
    exec (.dropContext tag n) s = .next (u.answered 0x31#8 tag [(2, n)] r) :=
  congrArg Host.Outcome.next (hostCommand_eq_answered takes (by simp) outcome)

theorem closeWindowEffect_badId (unnamed : windowNo (s.cmd 2) = none) : closeWindowEffect s = (.refused .badArg 2, s) := by
  simp only [closeWindowEffect, unnamed]

theorem closeWindowEffect_named {w : Fin 8} (named : windowNo (s.cmd 2) = some w) :
    closeWindowEffect s =
      if (s.window w).isOpen then (.ok [byteOf (activeOn s w)], closeWindow w s) else (.refused .notOpen 0, s) := by
  simp only [closeWindowEffect, named]

theorem dropContextEffect_badSlot (unnamed : slotNo (s.cmd 2) = none) :
    dropContextEffect s = (.refused .badArg 2, s) := by
  simp only [dropContextEffect, unnamed]

theorem dropContextEffect_named {k : SlotNo} (named : slotNo (s.cmd 2) = some k) : dropContextEffect s = dropOn k s := by
  simp only [dropContextEffect, named]

end

/-- DROP_CONTEXT on a slot, by its state (R168). -/
theorem dropOn_free {s : State} {k : SlotNo} (free : (s.context k).state = .free) : dropOn k s = (.ok [0#8, 0#8], s) := by
  simp only [dropOn, free]
  rfl

theorem dropOn_lingering {s : State} {k : SlotNo} (lingers : (s.context k).state = .lingering) :
    dropOn k s = (.ok [4#8, 2#8], freeContext k s) := by
  simp only [dropOn, lingers]
  rfl

theorem dropOn_active {s : State} {k : SlotNo}
    (active : (s.context k).state = .receiving ∨ (s.context k).state = .sending ∨ (s.context k).state = .drained) :
    dropOn k s = (.ok [byteOf (s.context k).state.code, 1#8], endContext k .hostDropped s) := by
  unfold dropOn
  rcases active with state | state | state <;> simp only [state]

/-- Settles O45. -/
theorem closeWindowAndDropContext : Obligations.CloseWindowAndDropContext := by
  intro s tag n takes
  have number (code : Byte) : (commandWritten code tag [(2, n)] s).cmd 2 = n := commandWritten_channelNumber nofun
  refine ⟨fun large => exec_closeWindow takes (closeWindowEffect_badId ?badId), fun w named => ⟨fun closed => ?notOpen,
    fun opened v p writes on => ?closes⟩, fun large => exec_dropContext takes (dropContextEffect_badSlot ?badSlot),
    fun k named => ⟨fun free => ?free, fun lingers => ⟨freeContext k s, freeContext_freed s k, ?lingering⟩,
      fun active => ⟨endContext k .hostDropped s, endContext_ends s k _, ?active⟩⟩⟩
  case badId => rw [number, windowNo_of_not_le (Nat.not_le_of_lt large)]
  case notOpen =>
    refine exec_closeWindow takes ?_
    rw [closeWindowEffect_named (by rw [number, windowNo_of_toNat_eq named])]
    exact if_neg (by rw [commandWritten_window, closed]; exact Bool.false_ne_true)
  case closes =>
    subst writes on
    refine ⟨closeWindow w s, contextsWindowClosed_takes _ w, contextsWindowClosed_rest _ w, exec_closeWindow takes ?_⟩
    rw [closeWindowEffect_named (by rw [number, windowNo_of_toNat_eq named]), (closeWindow_blind w).commandWritten,
      activeOn_eq]
    exact if_pos opened
  case badSlot => rw [number, slotNo_of_gt large]
  all_goals
    refine exec_dropContext takes ?_
    rw [dropContextEffect_named (by rw [number, slotNo_of_toNat_eq named])]
  case free => exact dropOn_free free
  case lingering => rw [dropOn_lingering (by exact lingers), (freeContext_blind k).commandWritten]
  case active => rw [dropOn_active (by exact active), (endContext_blind k _).commandWritten, commandWritten_context]

end Sys2Proof.Machine

/-! PROOFS. The reports: STATION_INFO, PEER_INFO, WINDOW_INFO, CHANNEL_INFO, CONTEXT_INFO (R59, R74, R90, R102, R169). -/

namespace Sys2Proof.Machine

section
variable {s : State} {tag n part : Byte} {r : Reply}

/-- Byte 3 of a command that names a part (10_host_port.md 10.4). -/
theorem commandWritten_part (code : Byte) : (commandWritten code tag [(2, n), (3, part)] s).cmd 3 = part := by
  simp [cmd_commandWritten, putBytes]

theorem commandWritten_number (code : Byte) : (commandWritten code tag [(2, n)] s).cmd 2 = n :=
  commandWritten_channelNumber nofun

theorem commandWritten_numberOfPart (code : Byte) : (commandWritten code tag [(2, n), (3, part)] s).cmd 2 = n :=
  commandWritten_channelNumber (by simp)

/-! ### STATION_INFO, PEER_INFO, WINDOW_INFO -/

theorem peerInfoEffect_badNumber (large : 31 < (s.cmd 2).toNat) : peerInfoEffect s = (.refused .badArg 2, s) :=
  dif_neg (Nat.not_lt_of_le large)

theorem peerInfoEffect_named {p : StationNo} (named : (s.cmd 2).toNat = p.val) :
    peerInfoEffect s = (.ok (peerInfoBody s p), s) := by
  have small : (s.cmd 2).toNat < 32 := named ▸ p.isLt
  have number : (⟨(s.cmd 2).toNat, small⟩ : StationNo) = p := Fin.ext named
  rw [peerInfoEffect, dif_pos small, number]

theorem peerInfoBody_eq (s : State) (p : StationNo) :
    peerInfoBody s p =
      if (s.peer p).state = .self then
        [2#8, byteOf s.station.conf.presenceInterval, byteOf s.openCount, byteOf s.freeSlots,
          byteOf (s.peer p).joinCount, 0#8, 0#8]
      else
        [byteOf (s.peer p).state.code, byteOf ((s.peer p).announced.getD 0), byteOf (s.peer p).openWindows,
          byteOf (s.peer p).freeContexts, byteOf (s.peer p).joinCount] ++ wordBytes ((s.peer p).expiry.getD 0) := by
  unfold peerInfoBody
  dsimp only
  split
  · rename_i self
    rw [self]
    rfl
  · rfl

theorem windowInfoEffect_badId (unnamed : windowNo (s.cmd 2) = none) : windowInfoEffect s = (.refused .badArg 2, s) := by
  simp only [windowInfoEffect, unnamed]

theorem windowInfoEffect_named {w : Fin 8} (named : windowNo (s.cmd 2) = some w) :
    windowInfoEffect s = (.ok (windowInfoBody s w), s) := by
  simp only [windowInfoEffect, named]

theorem windowInfoBody_eq (s : State) (w : Fin 8) :
    windowInfoBody s w =
      [if (s.window w).isOpen then 1#8 else 0#8, byteOf (s.window w).sizeCode, byteOf (s.window w).access.code,
        byteOf (contextsOn s w)] ++ wordBytes (s.window w).base ++ wordBytes (s.window w).valid ++
        bytes32 (s.window w).mask := by
  rw [windowInfoBody, byteOf_toNat_bool, activeOn_eq]

/-! ### CHANNEL_INFO, CONTEXT_INFO -/

theorem badPart_ne (large : 2 < part.toNat) : part ≠ 0#8 ∧ part ≠ 1#8 ∧ part ≠ 2#8 := by
  refine ⟨?_, ?_, ?_⟩ <;> rintro rfl <;> exact absurd large (by decide)

section
variable {c : ChannelNo}

theorem channelInfoOn_info0 (part : s.cmd 3 = 0#8) : channelInfoOn c s = (.ok (s.channel c).info0, s) := if_pos part

theorem channelInfoOn_info1 (part : s.cmd 3 = 1#8) : channelInfoOn c s = (.ok (s.channel c).info1, s) := by
  rw [channelInfoOn, part]
  rfl

theorem channelInfoOn_info2 (part : s.cmd 3 = 2#8) : channelInfoOn c s = (.ok (s.channel c).info2, s) := by
  rw [channelInfoOn, part]
  rfl

theorem channelInfoOn_badPart (large : 2 < (s.cmd 3).toNat) : channelInfoOn c s = (.refused .badArg 3, s) := by
  obtain ⟨not0, not1, not2⟩ := badPart_ne large
  rw [channelInfoOn, if_neg not0, if_neg not1, if_neg not2]

end

section
variable {k : SlotNo} (named : slotNo (s.cmd 2) = some k)
include named

theorem contextInfoEffect_info0 (part : s.cmd 3 = 0#8) : contextInfoEffect s = (.ok (s.context k).info0, s) := by
  simp only [contextInfoEffect, named]
  exact if_pos part

theorem contextInfoEffect_info1 (part : s.cmd 3 = 1#8) : contextInfoEffect s = (.ok (s.context k).info1, s) := by
  simp only [contextInfoEffect, named, part]
  rfl

theorem contextInfoEffect_info2 (part : s.cmd 3 = 2#8) : contextInfoEffect s = (.ok (contextInfo2 k s), s) := by
  simp only [contextInfoEffect, named, part]
  rfl

theorem contextInfoEffect_badPart (large : 2 < (s.cmd 3).toNat) : contextInfoEffect s = (.refused .badArg 3, s) := by
  obtain ⟨not0, not1, not2⟩ := badPart_ne large
  simp only [contextInfoEffect, named, if_neg not0, if_neg not1, if_neg not2]

end

theorem contextInfoEffect_badSlot (unnamed : slotNo (s.cmd 2) = none) :
    contextInfoEffect s = (.refused .badArg 2, s) := by
  simp only [contextInfoEffect, unnamed]

end

/-! ### The bodies as R102 and R169 place them -/

theorem byteOf_heldCode_held {ch : Channel} (held : ch.state = .held) :
    byteOf ch.heldCode = byteOf ch.heldPhase.toState.code := by
  rw [Channel.heldCode, if_pos held]

theorem byteOf_heldCode_else {ch : Channel} (going : ¬ch.state = .held) : byteOf ch.heldCode = 0#8 := by
  rw [Channel.heldCode, if_neg going]
  rfl

theorem lingerPlace_eq (s : State) (k : SlotNo) :
    lingerPlace k s = if k ∈ s.ctxs.linger then s.ctxs.linger.idxOf k + 1 else 0 := by
  simp only [lingerPlace, List.contains_iff_mem]

/-- Settles O47: each report is its body at the bytes the row writes, in a state that it leaves alone. -/
theorem infoCommands : Obligations.InfoCommands := by
  intro s tag n part takes
  refine ⟨?station, fun large => ?peerBad, fun p named => ?peer, fun large => ?windowBad, fun w named => ?window,
    fun c ch named read => ⟨fun body parts => ?channel, fun large => ?channelBad⟩, fun large => ?contextBad,
    fun k x named read => ⟨fun body parts => ?context, fun large => ?contextBadPart⟩⟩
  case station =>
    refine (congrArg Host.Outcome.next (hostCommand_answers (params := [])
      (effect := stationInfoEffect) takes nofun rfl)).trans
      (congrArg (fun body => Host.Outcome.next (s.answered 0x04#8 tag [] (.ok body))) ?_)
    show stationInfoBody s = _
    rw [stationInfoBody, byteOf_toNat_bool]
    cases s.lau.last <;> rfl
  case peerBad =>
    refine congrArg Host.Outcome.next (hostCommand_answers (effect := peerInfoEffect) takes (by simp)
      (peerInfoEffect_badNumber ?_))
    rwa [commandWritten_number]
  case peer =>
    rw [← peerInfoBody_eq]
    refine congrArg Host.Outcome.next (hostCommand_answers (effect := peerInfoEffect) takes (by simp)
      (peerInfoEffect_named ?_))
    rwa [commandWritten_number]
  case windowBad =>
    refine congrArg Host.Outcome.next (hostCommand_answers (effect := windowInfoEffect) takes (by simp)
      (windowInfoEffect_badId ?_))
    rw [commandWritten_number, windowNo_of_not_le (Nat.not_le_of_lt large)]
  case window =>
    rw [← windowInfoBody_eq]
    refine congrArg Host.Outcome.next (hostCommand_answers (effect := windowInfoEffect) takes (by simp)
      (windowInfoEffect_named ?_))
    rw [commandWritten_number, windowNo_of_toNat_eq named]
  case channel =>
    subst read
    have row {body' : List Byte} (same : body' = body)
        (outcome : channelInfoOn c (commandWritten 0x28#8 tag [(2, n), (3, part)] s) =
          (.ok body', commandWritten 0x28#8 tag [(2, n), (3, part)] s)) :
        exec (.channelInfo tag n part) s = .next (s.answered 0x28#8 tag [(2, n), (3, part)] (.ok body)) := by
      subst same
      exact congrArg Host.Outcome.next (hostCommand_onChannel takes (by simp) named outcome)
    rcases parts with ⟨rfl, rfl⟩ | ⟨rfl, rfl⟩ | ⟨rfl, rfl⟩
    · refine row ?_ (channelInfoOn_info0 (commandWritten_part _))
      rw [commandWritten_channel, Channel.info0]
      by_cases held : (s.channel c).state = .held
      · rw [byteOf_heldCode_held held, if_pos held]
        cases (s.channel c).heldPhase <;> rfl
      · rw [byteOf_heldCode_else held, if_neg held]
        rfl
    · refine row ?_ (channelInfoOn_info1 (commandWritten_part _))
      rw [commandWritten_channel]
      unfold Channel.info1
      dsimp only
      cases (s.channel c).desc.next <;> rfl
    · refine row ?_ (channelInfoOn_info2 (commandWritten_part _))
      rw [commandWritten_channel, Channel.info2]
      cases (s.channel c).endPending <;> rfl
  case channelBad =>
    refine congrArg Host.Outcome.next (hostCommand_onChannel (act := channelInfoOn) takes (by simp) named
      (channelInfoOn_badPart ?_))
    rwa [commandWritten_part]
  case contextBad =>
    refine congrArg Host.Outcome.next (hostCommand_answers (effect := contextInfoEffect) takes (by simp)
      (contextInfoEffect_badSlot ?_))
    rw [commandWritten_numberOfPart, slotNo_of_gt large]
  case context =>
    subst read
    have slot : slotNo ((commandWritten 0x30#8 tag [(2, n), (3, part)] s).cmd 2) = some k := by
      rw [commandWritten_numberOfPart, slotNo_of_toNat_eq named]
    have row {body' : List Byte} (same : body' = body)
        (outcome : contextInfoEffect (commandWritten 0x30#8 tag [(2, n), (3, part)] s) =
          (.ok body', commandWritten 0x30#8 tag [(2, n), (3, part)] s)) :
        exec (.contextInfo tag n part) s = .next (s.answered 0x30#8 tag [(2, n), (3, part)] (.ok body)) := by
      subst same
      exact congrArg Host.Outcome.next (hostCommand_answers takes (by simp) outcome)
    rcases parts with ⟨rfl, rfl⟩ | ⟨rfl, rfl⟩ | ⟨rfl, rfl⟩
    · refine row ?_ (contextInfoEffect_info0 slot (commandWritten_part _))
      rw [commandWritten_context, Context.info0, byteOf_toNat_bool]
      cases (s.context k).result <;> rfl
    · exact row rfl (contextInfoEffect_info1 slot (commandWritten_part _))
    · refine row ?_ (contextInfoEffect_info2 slot (commandWritten_part _))
      have info : contextInfo2 k (commandWritten 0x30#8 tag [(2, n), (3, 2#8)] s) = contextInfo2 k s := rfl
      rw [info, contextInfo2, lingerPlace_eq]
      cases (s.context k).stored <;> rfl
  case contextBadPart =>
    refine congrArg Host.Outcome.next (hostCommand_answers (effect := contextInfoEffect) takes (by simp)
      (contextInfoEffect_badPart (k := k) ?_ ?_))
    · rw [commandWritten_numberOfPart, slotNo_of_toNat_eq named]
    · rwa [commandWritten_part]

end Sys2Proof.Machine

/-! PROOFS. The channel commands START, ARM, TRIGGER, HOLD, RESUME, SET_DEADLINE and CANCEL, and the deadline's end (R95
to R99, R124 to R138). -/

namespace Sys2Proof.Machine

/-! ### What a channel command answers -/

section
variable {code tag n : Byte} {params : List (Fin 16 × Byte)} {act : ChannelNo → State → Reply × State} {s : State}
  {c : ChannelNo} {r : Reply}

/-- A channel command whose effect is a blind operation answers in the state that the operation leaves. -/
theorem hostCommand_onChannel_blind {f : State → State} (blind : Blind f) (takes : HostTakes s)
    (after : ∀ p ∈ params, 3 ≤ p.1.val) (number : n.toNat = c.val)
    (outcome : act c (commandWritten code tag ((2, n) :: params) s) =
      (r, f (commandWritten code tag ((2, n) :: params) s))) :
    hostCommand code tag ((2, n) :: params) (onChannel act) s = (f s).answered code tag ((2, n) :: params) r :=
  hostCommand_onChannel takes after number (by rw [outcome, blind.commandWritten])

end

/-! ### Descriptors -/

/-- The places of a descriptor's bytes (10_host_port.md 10.4). -/
theorem descriptorPlaces_eq (ch : Byte) (d : DescriptorArg) : descriptorPlaces ch d = (2, ch) :: descriptorBytes d := rfl

theorem descriptorBytes_above (d : DescriptorArg) : ∀ p ∈ descriptorBytes d, 3 ≤ p.1.val := by
  simp [descriptorBytes, wordAt]

/-- The descriptor parameters read back from the bytes the row writes (10_host_port.md 10.4). -/
theorem descriptorArg_commandWritten (code tag ch : Byte) (d : DescriptorArg) (s : State) :
    (commandWritten code tag ((2, ch) :: descriptorBytes d) s).descriptorArg = d := by
  have area (i : Fin 16) := cmd_commandWritten code tag ((2, ch) :: descriptorBytes d) s i
  simp only [State.descriptorArg, State.cmdWord, area]
  simp [descriptorBytes, wordAt, putBytes, word_hi_lo]

theorem channelNo_eq (b : Byte) : channelNo b = if b.toNat ≤ 7 then some (Fin.ofNat 8 b.toNat) else none := by
  by_cases small : b.toNat ≤ 7
  · have number : (Fin.ofNat 8 b.toNat).val = b.toNat := Nat.mod_eq_of_lt (Nat.lt_succ_of_le small)
    rw [if_pos small, channelNo_of_toNat_eq number.symm]
  · rw [if_neg small, channelNo_of_gt (Nat.lt_of_not_le small)]

theorem descriptorOf_eq (d : DescriptorArg) : descriptorOf d = descriptorIn d := by
  have op : (descriptorOf d).op = (descriptorIn d).op := by
    show Op.ofCode (d.opWindow.toNat / 16) = _
    unfold descriptorIn
    dsimp only
    generalize d.opWindow.toNat / 16 = code
    rcases code with _ | _ | _ | _ | code <;> rfl
  have next : (descriptorOf d).next = (descriptorIn d).next := channelNo_eq d.next
  have eta : descriptorOf d = { descriptorIn d with op := (descriptorOf d).op, next := (descriptorOf d).next } := rfl
  rw [eta, op, next]

/-! ### The checks of a descriptor -/

section
variable {own : StationNo} {c : ChannelNo} {d : DescriptorArg}

/-- The parameter checks of R96, in words of the values that the parameters spell. -/
theorem badParameter_eq (own : StationNo) (c : ChannelNo) (d : DescriptorArg) :
    badParameter own c d =
      if 31 < d.peer.toNat ∨ d.peer.toNat = own.val then some 3
      else if d.opWindow.toNat / 16 < 1 ∨ 3 < d.opWindow.toNat / 16 ∨
        ((d.opWindow.toNat / 16 = 1 ∨ d.opWindow.toNat / 16 = 2) ∧ 7 < d.opWindow.toNat % 16) then some 4
      else if 4 < d.sizeByte.toNat % 8 then some 5
      else if (d.opWindow.toNat / 16 = 1 ∨ d.opWindow.toNat / 16 = 2) ∧ 32767 < d.remoteOffset.toNat then some 6
      else if 32768 < d.total.toNat then some 10
      else if 16 < d.progress.toNat then some 12
      else if d.next ≠ 0xFF#8 ∧ (7 < d.next.toNat ∨ d.next.toNat = c.val) then some 13
      else none := by
  simp only [badParameter, DescriptorArg.opCode, DescriptorArg.windowId, DescriptorArg.sizeCode, movesWindow, Bool.or_eq_true,
    beq_iff_eq]

theorem descriptorRefusal_badParameter {offset : Nat} (bad : badParameter own c d = some offset) :
    descriptorRefusal own c d = some (.refused .badArg offset) := by
  simp only [descriptorRefusal, bad]

theorem descriptorRefusal_good (good : badParameter own c d = none) :
    descriptorRefusal own c d =
      if 65536 < d.localAddress.toNat + d.total.toNat then some (.refused .range 0) else none := by
  simp only [descriptorRefusal, good]

/-- The parameters pass the checks of R96 but that of the buffer range. -/
structure ParametersPass (own : StationNo) (c : ChannelNo) (d : DescriptorArg) : Prop where
  peer : d.peer.toNat ≤ 31 ∧ d.peer.toNat ≠ own.val
  op : 1 ≤ d.opWindow.toNat / 16 ∧ d.opWindow.toNat / 16 ≤ 3 ∧ (d.opWindow.toNat / 16 ≠ 3 → d.opWindow.toNat % 16 ≤ 7)
  size : d.sizeByte.toNat % 8 ≤ 4
  offset : d.opWindow.toNat / 16 ≠ 3 → d.remoteOffset.toNat ≤ 32767
  total : d.total.toNat ≤ 32768
  progress : d.progress.toNat ≤ 16
  next : d.next = 0xFF#8 ∨ (d.next.toNat ≤ 7 ∧ d.next.toNat ≠ c.val)

theorem badParameter_none (passes : ParametersPass own c d) : badParameter own c d = none := by
  obtain ⟨peer, op, size, offset, total, progress, next⟩ := passes
  rw [badParameter_eq, if_neg (by omega), if_neg (by omega), if_neg (by omega), if_neg (by omega), if_neg (by omega),
    if_neg (by omega), if_neg]
  rintro ⟨notNone, bad⟩
  rcases next with none | good
  · exact notNone none
  · omega

/-- Checks 4 and 5 of START are those of R96, in their order. -/
theorem descriptorRefusal_fails {r : Reply} (fails : FirstFails (descriptorChecks own c d) r) :
    descriptorRefusal own c d = some r := by
  simp only [descriptorChecks, firstFails_cons] at fails
  rcases fails with ⟨bad, rfl⟩ | ⟨peer, ⟨bad, rfl⟩ | ⟨op, ⟨bad, rfl⟩ | ⟨size, ⟨bad, rfl⟩ | ⟨offset, fails⟩⟩⟩⟩
  · refine descriptorRefusal_badParameter ?_
    rw [badParameter_eq, if_pos (by omega)]
  · refine descriptorRefusal_badParameter ?_
    rw [badParameter_eq, if_neg (by omega), if_pos (by omega)]
  · refine descriptorRefusal_badParameter ?_
    rw [badParameter_eq, if_neg (by omega), if_neg (by omega), if_pos (by omega)]
  · refine descriptorRefusal_badParameter ?_
    rw [badParameter_eq, if_neg (by omega), if_neg (by omega), if_neg (by omega), if_pos (by omega)]
  rcases fails with ⟨bad, rfl⟩ | ⟨total, ⟨bad, rfl⟩ | ⟨progress, ⟨bad, rfl⟩ | ⟨next, ⟨bad, rfl⟩ | ⟨_, never⟩⟩⟩⟩
  · refine descriptorRefusal_badParameter ?_
    rw [badParameter_eq, if_neg (by omega), if_neg (by omega), if_neg (by omega), if_neg (by omega), if_pos (by omega)]
  · refine descriptorRefusal_badParameter ?_
    rw [badParameter_eq, if_neg (by omega), if_neg (by omega), if_neg (by omega), if_neg (by omega), if_neg (by omega),
      if_pos (by omega)]
  · refine descriptorRefusal_badParameter ?_
    rw [badParameter_eq, if_neg (by omega), if_neg (by omega), if_neg (by omega), if_neg (by omega), if_neg (by omega),
      if_neg (by omega), if_pos]
    obtain ⟨notNone, outside⟩ := not_or.mp bad
    exact ⟨notNone, by omega⟩
  · rw [descriptorRefusal_good (badParameter_none ⟨peer, op, size, offset, total, progress, next⟩),
      if_pos (Nat.lt_of_not_le bad)]
  · exact never.elim

theorem descriptorRefusal_passes (passes : AllPass (descriptorChecks own c d)) : descriptorRefusal own c d = none := by
  simp only [descriptorChecks, allPass_cons] at passes
  obtain ⟨peer, op, size, offset, total, progress, next, within, _⟩ := passes
  rw [descriptorRefusal_good (badParameter_none ⟨peer, op, size, offset, total, progress, next⟩),
    if_neg (Nat.not_lt_of_le within)]

end

/-! ### START -/

theorem firstFails_append {α : Type} {first rest : List (Prop × α)} {r : α} :
    FirstFails (first ++ rest) r ↔ FirstFails first r ∨ (AllPass first ∧ FirstFails rest r) := by
  induction first with
  | nil => simp [FirstFails, AllPass]
  | cons check first ih =>
    obtain ⟨check, outcome⟩ := check
    rw [List.cons_append, firstFails_cons, firstFails_cons, allPass_cons, ih]
    tauto

theorem startable_iff {st : ChannelState} : st.startable = true ↔ st = .idle ∨ st = .done ∨ st = .failed := by
  cases st <;> decide

section
variable {s : State} {c : ChannelNo} {d : DescriptorArg}

theorem startRefusal_commandWritten (code tag : Byte) (params : List (Fin 16 × Byte)) (s : State) :
    startRefusal c d (commandWritten code tag params s) = startRefusal c d s := rfl

theorem armRefusal_commandWritten (code tag : Byte) (params : List (Fin 16 × Byte)) (s : State) :
    armRefusal c d (commandWritten code tag params s) = armRefusal c d s := rfl

/-- START's checks are those of R96, in their order. -/
theorem startRefusal_fails {r : Reply} (fails : FirstFails ([(s.station.mode = .online, Reply.refused .state 0),
      ((s.channel c).state = .idle ∨ (s.channel c).state = .done ∨ (s.channel c).state = .failed,
        .refused .channelState 0)] ++ descriptorChecks s.station.number c d ++
      [((s.peer (Fin.ofNat 32 d.peer.toNat)).state = .present, .refused .peerAbsent 0)]) r) :
    startRefusal c d s = some r := by
  unfold startRefusal
  rcases firstFails_append.mp fails with fails | ⟨passes, fails⟩
  · rcases firstFails_append.mp fails with fails | ⟨passes, fails⟩
    · simp only [firstFails_cons] at fails
      rcases fails with ⟨offLine, rfl⟩ | ⟨online, ⟨busy, rfl⟩ | ⟨_, never⟩⟩
      · exact if_pos offLine
      · rw [if_neg (not_not.mpr online), if_pos (Bool.eq_false_of_not_eq_true fun can => busy (startable_iff.mp can))]
      · exact never.elim
    · simp only [allPass_cons] at passes
      obtain ⟨online, can, _⟩ := passes
      rw [if_neg (not_not.mpr online), if_neg (by rw [startable_iff.mpr can]; decide), descriptorRefusal_fails fails]
  · obtain ⟨first, descriptor⟩ := allPass_append.mp passes
    simp only [allPass_cons] at first
    obtain ⟨online, can, _⟩ := first
    rcases fails with ⟨absent, rfl⟩ | ⟨_, never⟩
    · rw [if_neg (not_not.mpr online), if_neg (by rw [startable_iff.mpr can]; decide), descriptorRefusal_passes descriptor]
      exact if_neg fun present => absent (beq_iff_eq.mp present)
    · exact never.elim

theorem startRefusal_passes (passes : AllPass ([(s.station.mode = .online, Reply.refused .state 0),
      ((s.channel c).state = .idle ∨ (s.channel c).state = .done ∨ (s.channel c).state = .failed,
        .refused .channelState 0)] ++ descriptorChecks s.station.number c d ++
      [((s.peer (Fin.ofNat 32 d.peer.toNat)).state = .present, .refused .peerAbsent 0)])) :
    startRefusal c d s = none := by
  obtain ⟨passes, last⟩ := allPass_append.mp passes
  obtain ⟨first, descriptor⟩ := allPass_append.mp passes
  simp only [allPass_cons] at first last
  obtain ⟨online, can, _⟩ := first
  unfold startRefusal
  rw [if_neg (not_not.mpr online), if_neg (by rw [startable_iff.mpr can]; decide), descriptorRefusal_passes descriptor]
  exact if_pos (beq_iff_eq.mpr last.1)

theorem startChannel_starts (s : State) (c : ChannelNo) : startChannel c s = s.starts c (s.channel c) := rfl

theorem State.setChannel_setChannel (s : State) (c : ChannelNo) (x y : Channel) :
    (s.setChannel c x).setChannel c y = s.setChannel c y := by
  simp only [State.setChannel, State.setChans_chans, Vector.set_set]
  rfl

theorem startChannel_setChannel (s : State) (c : ChannelNo) (ch : Channel) :
    startChannel c (s.setChannel c ch) = s.starts c ch := by
  rw [startChannel_starts, State.setChannel_channel_same, State.starts, State.setChannel_setChannel]
  rfl

/-- START with its descriptor, as one operation (R97). -/
theorem starts_blind (c : ChannelNo) (d : Descriptor) :
    Blind fun s => s.starts c { s.channel c with desc := d } := fun _ _ => rfl

theorem startOn_refuses {r : Reply} (read : s.descriptorArg = d) (refuses : startRefusal c d s = some r) :
    startOn c s = (r, s) := by
  simp only [startOn, read, refuses]

theorem startOn_starts (read : s.descriptorArg = d) (passes : startRefusal c d s = none) :
    startOn c s = (.ok [], s.starts c { s.channel c with desc := descriptorIn d }) := by
  simp only [startOn, read, passes, startChannel_setChannel, descriptorOf_eq]

end

/-- Settles O49. -/
theorem start : Obligations.Start := by
  rintro s tag ch d c takes number _ rfl
  have read := descriptorArg_commandWritten 0x20#8 tag ch d s
  refine ⟨fun r fails => ?refused, fun passes => ?starts⟩
  case refused =>
    refine congrArg Host.Outcome.next (hostCommand_onChannel (act := startOn) takes (descriptorBytes_above d) number
      (startOn_refuses read ?_))
    rw [startRefusal_commandWritten, startRefusal_fails fails]
  case starts =>
    refine congrArg Host.Outcome.next (hostCommand_onChannel_blind (act := startOn) (starts_blind c (descriptorIn d)) takes
      (descriptorBytes_above d) number (startOn_starts read ?_))
    rw [startRefusal_commandWritten, startRefusal_passes passes]

/-! ### ARM, TRIGGER -/

theorem leaving_iff {m : StationMode} : m.leaving = true ↔ ¬(m ≠ .withdrawing ∧ m ≠ .withdrawn ∧ m ≠ .clash) := by
  cases m <;> decide

theorem armable_iff {st : ChannelState} :
    (st.startable || st == .armed) = true ↔ st = .idle ∨ st = .armed ∨ st = .done ∨ st = .failed := by
  cases st <;> decide

section
variable {s : State} {c : ChannelNo} {d : DescriptorArg}

/-- ARM's checks are those of R98, in their order. -/
theorem armRefusal_fails {r : Reply} (fails : FirstFails ([(s.station.mode ≠ .withdrawing ∧ s.station.mode ≠ .withdrawn ∧
        s.station.mode ≠ .clash, Reply.refused .state 0),
      ((s.channel c).state = .idle ∨ (s.channel c).state = .armed ∨ (s.channel c).state = .done ∨
        (s.channel c).state = .failed, .refused .channelState 0)] ++ descriptorChecks s.station.number c d) r) :
    armRefusal c d s = some r := by
  unfold armRefusal
  rcases firstFails_append.mp fails with fails | ⟨passes, fails⟩
  · simp only [firstFails_cons] at fails
    rcases fails with ⟨leaves, rfl⟩ | ⟨stays, ⟨busy, rfl⟩ | ⟨_, never⟩⟩
    · exact if_pos (leaving_iff.mpr leaves)
    · rw [if_neg fun leaves => leaving_iff.mp leaves stays,
        if_pos (Bool.eq_false_of_not_eq_true fun can => busy (armable_iff.mp can))]
    · exact never.elim
  · simp only [allPass_cons] at passes
    obtain ⟨stays, can, _⟩ := passes
    rw [if_neg fun leaves => leaving_iff.mp leaves stays, if_neg (by rw [armable_iff.mpr can]; decide),
      descriptorRefusal_fails fails]

theorem armRefusal_passes (passes : AllPass ([(s.station.mode ≠ .withdrawing ∧ s.station.mode ≠ .withdrawn ∧
        s.station.mode ≠ .clash, Reply.refused .state 0),
      ((s.channel c).state = .idle ∨ (s.channel c).state = .armed ∨ (s.channel c).state = .done ∨
        (s.channel c).state = .failed, .refused .channelState 0)] ++ descriptorChecks s.station.number c d)) :
    armRefusal c d s = none := by
  obtain ⟨first, descriptor⟩ := allPass_append.mp passes
  simp only [allPass_cons] at first
  obtain ⟨stays, can, _⟩ := first
  unfold armRefusal
  rw [if_neg fun leaves => leaving_iff.mp leaves stays, if_neg (by rw [armable_iff.mpr can]; decide),
    descriptorRefusal_passes descriptor]

/-- The state ARM leaves, its channel ARMED with the descriptor given (R98). -/
def State.arms (s : State) (c : ChannelNo) (d : Descriptor) : State := s.setChannel c ((s.channel c).armedWith d)

theorem armOn_refuses {r : Reply} (read : s.descriptorArg = d) (refuses : armRefusal c d s = some r) :
    armOn c s = (r, s) := by
  simp only [armOn, read, refuses]

theorem armOn_arms (read : s.descriptorArg = d) (passes : armRefusal c d s = none)
    (fresh : (s.channel c).state = .idle ∨ (s.channel c).state = .armed) :
    armOn c s = (.ok [], s.arms c (descriptorIn d)) := by
  have going : (s.channel c).state.ended = false := by rcases fresh with state | state <;> rw [state] <;> rfl
  simp only [armOn, read, passes, going, Bool.false_eq_true, if_false, descriptorOf_eq]
  rfl

theorem armOn_armsEnded (read : s.descriptorArg = d) (passes : armRefusal c d s = none)
    (ended : (s.channel c).state = .done ∨ (s.channel c).state = .failed) :
    armOn c s = (.ok [], clearMarks c (s.arms c (descriptorIn d))) := by
  simp only [armOn, read, passes, ChannelState.ended_iff.mpr ended, if_true, descriptorOf_eq]
  rfl

theorem triggerOn_offLine (offLine : s.station.mode ≠ .online) : triggerOn c s = (.refused .state 0, s) := if_pos offLine

theorem triggerOn_notArmed (online : s.station.mode = .online) (other : (s.channel c).state ≠ .armed) :
    triggerOn c s = (.refused .channelState 0, s) := by
  rw [triggerOn, if_neg (not_not.mpr online), if_pos other]

theorem triggerOn_present (online : s.station.mode = .online) (armed : (s.channel c).state = .armed)
    (present : (s.peer (s.channel c).desc.peer).state = .present) : triggerOn c s = (.ok [], startChannel c s) := by
  rw [triggerOn, if_neg (not_not.mpr online), if_neg (not_not.mpr armed)]
  exact if_pos (beq_iff_eq.mpr present)

theorem triggerOn_absent (online : s.station.mode = .online) (armed : (s.channel c).state = .armed)
    (absent : (s.peer (s.channel c).desc.peer).state ≠ .present) :
    triggerOn c s = (.refused .peerAbsent 0, endChannel c .peerAbsent 0 s) := by
  rw [triggerOn, if_neg (not_not.mpr online), if_neg (not_not.mpr armed)]
  exact if_neg fun present => absent (beq_iff_eq.mp present)

end

/-- Settles O50. -/
theorem armAndTrigger : Obligations.ArmAndTrigger := by
  intro s tag ch c takes number
  refine ⟨fun d checks are => ⟨fun r fails => ?armRefused, fun passes t arms => ⟨fun fresh => ?arm, fun ended => ?armEnded⟩⟩,
    fun r fails => ?triggerRefused, fun online armed => ⟨fun present => ?start, fun absent =>
      ⟨endChannel c .peerAbsent 0 s, endChannel_ends s c _ _, ?absent⟩⟩⟩
  case armRefused =>
    subst are
    refine congrArg Host.Outcome.next (hostCommand_onChannel (act := armOn) takes (descriptorBytes_above d) number
      (armOn_refuses (descriptorArg_commandWritten 0x21#8 tag ch d s) ?_))
    rw [armRefusal_commandWritten, armRefusal_fails fails]
  case arm =>
    subst are arms
    refine congrArg Host.Outcome.next (hostCommand_onChannel_blind (act := armOn) (f := fun s => s.arms c (descriptorIn d))
      (fun _ _ => rfl) takes (descriptorBytes_above d) number
      (armOn_arms (descriptorArg_commandWritten 0x21#8 tag ch d s) ?_ (by rwa [commandWritten_channel])))
    rw [armRefusal_commandWritten, armRefusal_passes passes]
  case armEnded =>
    subst are arms
    refine congrArg Host.Outcome.next (hostCommand_onChannel_blind (act := armOn)
      (f := fun s => clearMarks c (s.arms c (descriptorIn d))) (fun _ _ => rfl) takes (descriptorBytes_above d) number
      (armOn_armsEnded (descriptorArg_commandWritten 0x21#8 tag ch d s) ?_ (by rwa [commandWritten_channel])))
    rw [armRefusal_commandWritten, armRefusal_passes passes]
  case triggerRefused =>
    refine congrArg Host.Outcome.next (hostCommand_onChannel (act := triggerOn) takes nofun number ?_)
    simp only [firstFails_cons] at fails
    rcases fails with ⟨offLine, rfl⟩ | ⟨online, ⟨other, rfl⟩ | ⟨_, never⟩⟩
    · exact triggerOn_offLine offLine
    · exact triggerOn_notArmed online other
    · exact never.elim
  case start =>
    exact congrArg Host.Outcome.next (hostCommand_onChannel_blind (act := triggerOn) (startChannel_blind c) takes nofun number
      (triggerOn_present online armed present))
  case absent =>
    exact congrArg Host.Outcome.next (hostCommand_onChannel_blind (act := triggerOn) (endChannel_blind c .peerAbsent 0) takes
      nofun number (triggerOn_absent online armed absent))

end Sys2Proof.Machine

/-! PROOFS. HOLD, RESUME, SET_DEADLINE, CANCEL and the end of a deadline (R124 to R138). -/

namespace Sys2Proof.Machine

/-! ### HOLD, RESUME -/

section
variable {s : State} {c : ChannelNo}

theorem holdOn_holds {p : HeldPhase} (phase : (s.channel c).state.phase = some p)
    (idle : (s.channel c).askInFlight = false) : holdOn c s = (.ok [], enterHeld c p s) := by
  simp only [holdOn, phase, idle, Bool.false_eq_true, if_false]

theorem holdOn_pends {p : HeldPhase} (phase : (s.channel c).state.phase = some p)
    (asks : (s.channel c).askInFlight = true) :
    holdOn c s = (.pending, s.setChannel c { s.channel c with holdPending := true }) := by
  simp only [holdOn, phase, asks, if_true]

theorem holdOn_held (held : (s.channel c).state = .held) : holdOn c s = (.ok [], s) := by
  have none : (s.channel c).state.phase = none := by rw [held]; rfl
  simp only [holdOn, none, if_pos held]

theorem holdOn_refused (none : (s.channel c).state.phase = none) (going : (s.channel c).state ≠ .held) :
    holdOn c s = (.refused .channelState 0, s) := by
  simp only [holdOn, none, if_neg going]

theorem resumeOn_refused (going : (s.channel c).state ≠ .held) : resumeOn c s = (.refused .channelState 0, s) :=
  if_neg going

theorem resumeOn_held (held : (s.channel c).state = .held) : resumeOn c s = (.ok [], resumeChannel c s) := if_pos held

theorem resumeChannel_request (phase : (s.channel c).heldPhase = .request) :
    resumeChannel c s = s.setChannel c { s.channel c with state := .request } := by
  simp only [resumeChannel, phase]
  rfl

theorem resumeChannel_built (phase : (s.channel c).heldPhase = .data) (put : (s.channel c).desc.op = .put)
    (built : (s.channel c).built = true) : resumeChannel c s = s.setChannel c { s.channel c with state := .data } := by
  simp only [resumeChannel, phase, put, built, if_true]
  rfl

theorem resumeChannel_claims (phase : (s.channel c).heldPhase = .data) (put : (s.channel c).desc.op = .put)
    (unbuilt : (s.channel c).built = false) :
    resumeChannel c s = claimFrame c (s.setChannel c { s.channel c with state := .data }) := by
  unfold resumeChannel
  simp only [phase, put, unbuilt, Bool.false_eq_true, if_true, if_false]
  rfl

theorem resumeChannel_waits (phase : (s.channel c).heldPhase = .data) (get : (s.channel c).desc.op ≠ .put) :
    resumeChannel c s = s.setChannel c { s.channel c with state := .data, dataWait := some s.idleLength } := by
  unfold resumeChannel
  simp only [phase, if_neg get, State.setChannel_channel_same, State.setChannel_setChannel]
  rfl

theorem resumeChannel_close (phase : (s.channel c).heldPhase = .close) :
    resumeChannel c s = s.setChannel c { s.channel c with state := .close } := by
  simp only [resumeChannel, phase]
  rfl

/-! ### SET_DEADLINE -/

theorem setDeadlineOn_zero (zero : (s.cmdWord 3 4).toNat = 0) : setDeadlineOn c s = (.refused .badArg 3, s) := if_pos zero

theorem setDeadlineOn_running {ms : Nat} (read : (s.cmdWord 3 4).toNat = ms) (some : ms ≠ 0)
    (runs : (s.channel c).state.running = true) :
    setDeadlineOn c s = (.ok [], s.setChannel c { s.channel c with
      desc := { (s.channel c).desc with deadline := ms }, deadlineTimer := .some ms }) := by
  subst read
  simp only [setDeadlineOn, if_neg some, runs, if_true]

theorem setDeadlineOn_armed {ms : Nat} (read : (s.cmdWord 3 4).toNat = ms) (some : ms ≠ 0)
    (armed : (s.channel c).state = .armed) :
    setDeadlineOn c s = (.ok [], s.setChannel c { s.channel c with desc := { (s.channel c).desc with deadline := ms } }) := by
  subst read
  unfold setDeadlineOn
  dsimp only
  rw [if_neg some, if_neg (ChannelState.not_running_of_armed armed), if_pos armed]

theorem setDeadlineOn_refused {ms : Nat} (read : (s.cmdWord 3 4).toNat = ms) (some : ms ≠ 0)
    (still : (s.channel c).state.running = false) (other : (s.channel c).state ≠ .armed) :
    setDeadlineOn c s = (.refused .channelState 0, s) := by
  subst read
  unfold setDeadlineOn
  dsimp only
  rw [if_neg some, if_neg (by rw [still]; exact Bool.false_ne_true), if_neg other]

end

theorem commandWritten_deadline (tag n : Byte) (ms : Word) (s : State) :
    (commandWritten 0x26#8 tag [(2, n), (3, hi ms), (4, lo ms)] s).cmdWord 3 4 = ms := by
  simp [State.cmdWord, cmd_commandWritten, putBytes, word_hi_lo]

/-- Settles O51: each clause is the command's case of the channel's state, read at the bytes the row writes. -/
theorem holdResumeSetDeadline : Obligations.HoldResumeSetDeadline := by
  rintro s tag n c _ takes number rfl
  refine ⟨fun p phase => ⟨fun idle => ⟨enterHeld c p s, enterHeld_held s c p, ?holds⟩, fun asks => ?pends⟩, fun held => ?held,
    fun none going => ?notHeld, fun going => ?notResumed,
    fun held => ⟨fun u goesOn => ?resumes, fun phase put unbuilt =>
      ⟨resumeChannel c s, ?claims, ?claiming⟩⟩, fun ms params places => ?deadline⟩
  case holds =>
    exact congrArg Host.Outcome.next (hostCommand_onChannel_blind (act := holdOn) (enterHeld_blind c p) takes nofun number
      (holdOn_holds phase idle))
  case pends =>
    exact congrArg Host.Outcome.next (hostCommand_onChannel_blind (act := holdOn)
      (f := fun s => s.setChannel c { s.channel c with holdPending := true }) (fun _ _ => rfl) takes nofun number
      (holdOn_pends phase asks))
  case held => exact congrArg Host.Outcome.next (hostCommand_onChannel (act := holdOn) takes nofun number (holdOn_held held))
  case notHeld =>
    exact congrArg Host.Outcome.next (hostCommand_onChannel (act := holdOn) takes nofun number (holdOn_refused none going))
  case notResumed =>
    exact congrArg Host.Outcome.next (hostCommand_onChannel (act := resumeOn) takes nofun number (resumeOn_refused going))
  case resumes =>
    have leaves : u = resumeChannel c s := by
      rcases goesOn with ⟨phase, rfl⟩ | ⟨phase, put, built, rfl⟩ | ⟨phase, get, rfl⟩ | ⟨phase, rfl⟩
      · exact (resumeChannel_request phase).symm
      · exact (resumeChannel_built phase put built).symm
      · exact (resumeChannel_waits phase get).symm
      · exact (resumeChannel_close phase).symm
    rw [leaves]
    exact congrArg Host.Outcome.next (hostCommand_onChannel_blind (act := resumeOn) (resumeChannel_blind c) takes nofun number
      (resumeOn_held held))
  case claims =>
    rw [resumeChannel_claims phase put unbuilt]
    exact claimFrame_claims _ c
  case claiming =>
    exact congrArg Host.Outcome.next (hostCommand_onChannel_blind (act := resumeOn) (resumeChannel_blind c) takes nofun number
      (resumeOn_held held))
  case deadline =>
    subst places
    have read := congrArg BitVec.toNat (commandWritten_deadline tag n ms s)
    have row {u : State} {r : Reply}
        (outcome : setDeadlineOn c (commandWritten 0x26#8 tag [(2, n), (3, hi ms), (4, lo ms)] s) =
          (r, commandWritten 0x26#8 tag [(2, n), (3, hi ms), (4, lo ms)] u)) :
        exec (.setDeadline tag n ms) s = .next (u.answered 0x26#8 tag [(2, n), (3, hi ms), (4, lo ms)] r) :=
      congrArg Host.Outcome.next (hostCommand_onChannel takes (by simp [wordAt]) number outcome)
    have positive (some : ms ≠ 0#16) : ms.toNat ≠ 0 := fun zero => some (BitVec.eq_of_toNat_eq zero)
    refine ⟨fun zero => row (setDeadlineOn_zero ?_), fun some runs => row (setDeadlineOn_running read (positive some) runs),
      fun some armed => row (setDeadlineOn_armed read (positive some) armed),
      fun some still other => row (setDeadlineOn_refused read (positive some) still other)⟩
    rw [read, zero]
    rfl

/-! ### CANCEL and the end of a deadline -/

section
variable {s : State} {c : ChannelNo} (why : AbortReason)

/-- CANCEL and a deadline's end on a channel that runs, by its state, its ask and its held phase (R130, R131, R138). -/
theorem giveUp_gives (runs : (s.channel c).state.running = true) : GivesUp c why s (giveUp c why s) := by
  unfold GivesUp giveUp
  dsimp only
  split
  · rename_i state
    by_cases asks : (s.channel c).askInFlight = true
    · exact .inr (.inr ⟨.inl state, asks, if_pos asks⟩)
    · rw [if_neg asks]
      exact .inl ⟨.inl ⟨state, Bool.eq_false_of_not_eq_true asks⟩, endChannel_ends s c _ _⟩
  · rename_i state
    by_cases asks : (s.channel c).askInFlight = true
    · exact .inr (.inr ⟨.inr (.inl state), asks, if_pos asks⟩)
    · rw [if_neg asks]
      exact .inr (.inl ⟨.inl ⟨.inl state, Bool.eq_false_of_not_eq_true asks⟩, enterAborting_aborts s c why⟩)
  · rename_i state
    by_cases asks : (s.channel c).askInFlight = true
    · exact .inr (.inr ⟨.inr (.inr state), asks, if_pos asks⟩)
    · rw [if_neg asks]
      exact .inr (.inl ⟨.inl ⟨.inr state, Bool.eq_false_of_not_eq_true asks⟩, enterAborting_aborts s c why⟩)
  · rename_i state
    by_cases phase : (s.channel c).heldPhase = .request
    · rw [if_pos phase]
      exact .inl ⟨.inr ⟨state, phase⟩, endChannel_ends s c _ _⟩
    · rw [if_neg phase]
      exact .inr (.inl ⟨.inr ⟨state, phase⟩, enterAborting_aborts s c why⟩)
  · rename_i notRequest notData notClose notHeld
    cases state : (s.channel c).state with
    | request => exact (notRequest state).elim
    | data => exact (notData state).elim
    | close => exact (notClose state).elim
    | held => exact (notHeld state).elim
    | idle | armed | aborting | done | failed =>
      rw [state] at runs
      cases runs

/-- A channel that does not run has nothing to give up. -/
theorem giveUp_still (still : (s.channel c).state = .idle ∨ (s.channel c).state = .done ∨ (s.channel c).state = .failed ∨
    (s.channel c).state = .aborting) : giveUp c why s = s := by
  unfold giveUp
  rcases still with state | state | state | state <;> simp only [state]

theorem cancelOn_armed (armed : (s.channel c).state = .armed) : cancelOn c s = (.ok [], endChannel c .cancelled 0 s) :=
  if_pos armed

theorem cancelOn_gives (notArmed : (s.channel c).state ≠ .armed) :
    cancelOn c s = (if (s.channel c).endPends then .pending else .ok [], giveUp c .cancelled s) := if_neg notArmed

end

/-- Whether CANCEL answers PENDING (R130, R131). -/
theorem endPends_reply {ch : Channel} (runs : ch.state.running = true) :
    (if ch.endPends then Reply.pending else .ok []) =
      { status := .ok, detail := if ch.state ≠ .held ∧ ch.askInFlight then 1 else 0, body := [] } := by
  have phase : ch.state.phase.isSome = true ↔ ch.state ≠ .held := by
    generalize ch.state = st at runs
    revert runs
    cases st <;> decide
  have pends : ch.endPends = true ↔ ch.state ≠ .held ∧ ch.askInFlight = true := by
    rw [Channel.endPends, Bool.and_eq_true, phase]
  by_cases asks : ch.state ≠ .held ∧ ch.askInFlight = true
  · rw [if_pos (pends.mpr asks), if_pos asks]
    rfl
  · rw [if_neg fun p => asks (pends.mp p), if_neg asks]
    rfl

/-- Settles O36. -/
theorem cancelAndDeadline : Obligations.CancelAndDeadline := by
  refine ⟨fun s tag ch c takes number => ⟨fun armed => ⟨endChannel c .cancelled 0 s, endChannel_ends s c _ _, ?armed⟩,
    fun still => ?still, fun runs => ⟨giveUp c .cancelled s, giveUp_gives .cancelled runs, ?gives⟩⟩,
    fun s c out runs => ?expires⟩
  case armed =>
    exact congrArg Host.Outcome.next (hostCommand_onChannel_blind (act := cancelOn) (endChannel_blind c .cancelled 0) takes
      nofun number (cancelOn_armed armed))
  case still =>
    refine congrArg Host.Outcome.next (hostCommand_onChannel (act := cancelOn) takes nofun number ?_)
    have notArmed : (s.channel c).state ≠ .armed := by
      rcases still with state | state | state | state <;> rw [state] <;> decide
    have idle : (s.channel c).endPends = false := by
      rcases still with state | state | state | state <;> simp only [Channel.endPends, state] <;> rfl
    rw [cancelOn_gives (by exact notArmed), giveUp_still _ (by exact still), commandWritten_channel, idle]
    rfl
  case gives =>
    rw [← endPends_reply runs]
    refine congrArg Host.Outcome.next (hostCommand_onChannel_blind (act := cancelOn) (giveUp_blind c .cancelled) takes nofun
      number (cancelOn_gives fun armed => ChannelState.not_running_of_armed armed runs))
  case expires =>
    have row : exec (.deadlineExpiry c) s = .next (deadlineExpires c s) := rfl
    have runs' : ((s.setChannel c { s.channel c with deadlineTimer := none }).channel c).state.running = true := by
      rw [State.setChannel_channel_same]
      exact runs
    refine ⟨_, giveUp_gives .deadline runs', ?_⟩
    rw [row]
    exact congrArg Host.Outcome.next (if_pos (by rw [out]; rfl))

end Sys2Proof.Machine

/-! PROOFS. Slots and the transmit scheduler (R5, R6, R11, R21, R29 to R31). -/

namespace Sys2Proof.Machine

/-! ### The round-robin order -/

/-- A list rises in a measure: its first member that meets a condition is the one of the least measure that does. -/
theorem find?_least {α : Type} {places : List α} {measure : α → Nat}
    (rising : places.Pairwise fun x y => measure x < measure y) {p : α → Bool} {i : α} (mem : i ∈ places)
    (meets : p i = true) (least : ∀ j, p j = true → measure i ≤ measure j) : places.find? p = some i := by
  induction places with
  | nil => cases mem
  | cons x rest ih =>
    obtain ⟨below, rising⟩ := List.pairwise_cons.mp rising
    rcases List.mem_cons.mp mem with rfl | later
    · exact List.find?_cons_of_pos meets
    · have skipped : ¬p x = true := fun holds => absurd (below i later) (Nat.not_lt_of_le (least x holds))
      rw [List.find?_cons_of_neg skipped]
      exact ih rising later

theorem placesAfter_rising (p : Fin 12) : (placesAfter p).Pairwise fun i j => turnsAfter p i < turnsAfter p j := by
  revert p
  decide

theorem mem_placesAfter (p i : Fin 12) : i ∈ placesAfter p := by
  revert p i
  decide

section
variable {s : State}

theorem sourceReady_channel (s : State) (c : ChannelNo) :
    sourceReady s (.channel c) = true ↔ ChannelReady (s.channel c) := by
  cases state : (s.channel c).state <;> simp [sourceReady, ChannelReady, state]

theorem sourceReady_context (s : State) (k : SlotNo) :
    sourceReady s (.context k) = true ↔ ContextReady (s.context k) := by
  simp only [sourceReady, ContextReady, Bool.and_eq_true, beq_iff_eq, and_assoc]

theorem sourceAt_channel {i : Fin 12} {c : ChannelNo} (place : i.val = c.val) : sourceAt i = .channel c := by
  have small : i.val < 8 := place ▸ c.isLt
  rw [sourceAt, dif_pos small]
  exact congrArg Source.channel (Fin.ext place)

theorem sourceAt_context {i : Fin 12} {k : SlotNo} (place : i.val = 8 + k.val) : sourceAt i = .context k := by
  rw [sourceAt, dif_neg (by omega)]
  exact congrArg Source.context (Fin.ext (by simp; omega))

/-- The sources by their places in the order (R21). -/
theorem sourceReady_sourceAt (s : State) (i : Fin 12) : sourceReady s (sourceAt i) = true ↔ PlaceReady s i := by
  by_cases small : i.val < 8
  · rw [sourceAt_channel (c := ⟨i.val, small⟩) rfl, sourceReady_channel]
    constructor
    · intro ready
      refine ⟨fun c place => ?_, fun k place => by omega⟩
      rwa [← (Fin.ext place : (⟨i.val, small⟩ : ChannelNo) = c)]
    · exact fun ready => ready.1 _ rfl
  · have place : i.val = 8 + (⟨i.val - 8, by omega⟩ : SlotNo).val := by simp; omega
    rw [sourceAt_context place, sourceReady_context]
    constructor
    · intro ready
      refine ⟨fun c atChannel => by omega, fun k atSlot => ?_⟩
      rwa [← (Fin.ext (by simp; omega) : (⟨i.val - 8, by omega⟩ : SlotNo) = k)]
    · exact fun ready => ready.2 _ place

theorem nextPlace_serves {i : Fin 12} (serves : Serves s i) : nextPlace s = some i :=
  find?_least (placesAfter_rising _) (mem_placesAfter _ i) ((sourceReady_sourceAt s i).mpr serves.1) fun j ready =>
    serves.2 j ((sourceReady_sourceAt s j).mp ready)

theorem nextPlace_none (none : ∀ i, ¬PlaceReady s i) : nextPlace s = .none :=
  List.find?_eq_none.mpr fun i _ ready => none i ((sourceReady_sourceAt s i).mp ready)

/-! ### The start of a slot -/

theorem nextSlot_of {k : Nat} (next : NextSlot s k) : nextSlot s = some k := by
  rcases next with phase | ⟨j, phase, small, rfl⟩
  · simp only [nextSlot, phase, Bool.false_eq_true, if_false]
  · simp only [nextSlot, phase, if_true, if_pos small]

theorem exec_slotStart {k : Nat} (next : NextSlot s k) : exec .slotStart s = .next (beginSlot k s) := by
  have row : exec .slotStart s = execSlotStart s := rfl
  simp only [row, execSlotStart, nextSlot_of next]

/-- A slot that is not this station's, or for which nothing is ready, passes idle (R11). -/
theorem beginSlot_idle {k : Nat} (idle : ownsSlot s k = true → pick (s.setPhase (.contention k true)) = none) :
    beginSlot k s = s.setPhase (.contention k true) := by
  have owner : ownsSlot (s.setPhase (.contention k true)) k = ownsSlot s k := rfl
  unfold beginSlot
  dsimp only
  rw [owner]
  split
  · rename_i owns
    rw [idle owns]
  · rfl

theorem beginSlot_picks {k : Nat} {p : Pick} (owns : ownsSlot s k = true)
    (picks : pick (s.setPhase (.contention k true)) = some p) :
    beginSlot k s = beginPick p (s.setPhase (.contention k true)) := by
  have owner : ownsSlot (s.setPhase (.contention k true)) k = ownsSlot s k := rfl
  unfold beginSlot
  dsimp only
  rw [owner, if_pos owns, picks]

theorem pick_setPhase (s : State) (phase : Phase) : pick (s.setPhase phase) = pick s := rfl

theorem pick_joining (mode : s.station.mode = .joining) :
    pick s = if s.station.joinReady then some .station else none := by
  simp only [pick, mode]

theorem pick_withdrawing (mode : s.station.mode = .withdrawing) :
    pick s = if s.station.leaveReady then some .station else (nextPlace s).map .place := by
  simp only [pick, mode]

theorem pick_online_place {i : Fin 12} (mode : s.station.mode = .online) (next : nextPlace s = some i) :
    pick s = some (.place i) := by
  simp only [pick, mode, next]

theorem pick_online_none (mode : s.station.mode = .online) (next : nextPlace s = none) :
    pick s = if s.station.presenceDue then some .station else none := by
  simp only [pick, mode, next]

theorem pick_elsewhere (notJoining : s.station.mode ≠ .joining) (notOnline : s.station.mode ≠ .online)
    (notWithdrawing : s.station.mode ≠ .withdrawing) : pick s = none := by
  unfold pick
  split
  · exact absurd ‹_› notJoining
  · exact absurd ‹_› notWithdrawing
  · exact absurd ‹_› notOnline
  · rfl

end

/-! ### The frames that begin -/

section
variable {s : State}

theorem beginPick_station (phase : Phase) :
    beginPick .station (s.setPhase phase) = s.sends .station (stationFrame s) := rfl

theorem beginPick_channel {i : Fin 12} {c : ChannelNo} (place : i.val = c.val) (phase : Phase) :
    beginPick (.place i) (s.setPhase phase) =
      ((s.setLau { s.lau with pointer := i }).sends (.channel c) (channelFrame c s)).setChannel c
        { s.channel c with askInFlight := true } := by
  rw [beginPick, sourceAt_channel place]
  rfl

theorem beginPick_context {i : Fin 12} {k : SlotNo} (place : i.val = 8 + k.val) (phase : Phase) :
    beginPick (.place i) (s.setPhase phase) =
      ((s.setLau { s.lau with pointer := i }).sends (.context k) (contextFrame k s)).setContext k
        { s.context k with askInFlight := true } := by
  rw [beginPick, sourceAt_context place]
  rfl

/-- A REQUEST's payload as R30 gives it. -/
theorem requestBody_payload (d : Descriptor) :
    d.requestBody.payload = if d.op = .list then
      [byteOf d.op.code, 0#8, byteOf d.sizeCode, 0#8, 0#8, 0#8] ++ wordBytes d.total
    else [byteOf d.op.code, byteOf d.windowId, byteOf d.sizeCode, 0#8] ++ wordBytes d.remoteOffset ++ wordBytes d.total := by
  simp only [RequestBody.payload, Descriptor.requestBody]
  split <;> rfl

end

/-- Settles O11: the slot passes where nothing is picked, and else the station source's frame begins. -/
theorem slotStartPassesOrSendsStationFrame : Obligations.SlotStartPassesOrSendsStationFrame := by
  intro s k next
  rw [exec_slotStart next]
  refine ⟨fun passes => congrArg Host.Outcome.next (beginSlot_idle fun owns => ?idle),
    fun l last slot payload is => ⟨fun mode ready => ?join, fun mode ready => ?leave, fun mode due none => ?presence⟩⟩
  case idle =>
    rw [pick_setPhase]
    rcases passes with unknown | ⟨l, last, other⟩ | ⟨notJoining, notOnline, notWithdrawing⟩ | ⟨mode, notReady⟩ |
      ⟨mode, notReady, none⟩ | ⟨mode, notDue, none⟩
    · simp [ownsSlot, unknown] at owns
    · exact absurd ((ownsSlot_iff_of_last last k).mp owns) other
    · exact pick_elsewhere notJoining notOnline notWithdrawing
    · rw [pick_joining mode, notReady]
      rfl
    · rw [pick_withdrawing mode, notReady, nextPlace_none none]
      rfl
    · rw [pick_online_none mode (nextPlace_none none), notDue]
      rfl
  all_goals subst is
  all_goals have owns : ownsSlot s k = true := (ownsSlot_iff_of_last last k).mpr slot
  case join =>
    have picks : pick s = some .station := by rw [pick_joining mode, if_pos ready]
    rw [beginSlot_picks owns picks, beginPick_station, stationFrame, mode]
  case leave =>
    have picks : pick s = some .station := by rw [pick_withdrawing mode, if_pos ready]
    rw [beginSlot_picks owns picks, beginPick_station, stationFrame, mode]
  case presence =>
    have picks : pick s = some .station := by rw [pick_online_none mode (nextPlace_none none), if_pos due]
    rw [beginSlot_picks owns picks, beginPick_station, stationFrame, mode]

/-- Settles O12: the place served next is the one that the scheduler picks, and its frame is that of its state. -/
theorem ownSlotSendsExchangeFrame : Obligations.OwnSlotSendsExchangeFrame := by
  intro s k l i next last slot mode serves
  have owns : ownsSlot s k = true := (ownsSlot_iff_of_last last k).mpr slot
  have picks : pick s = some (.place i) := by
    rcases mode with online | ⟨withdrawing, noLeave⟩
    · exact pick_online_place online (nextPlace_serves serves)
    · rw [pick_withdrawing withdrawing, noLeave, nextPlace_serves serves]
      rfl
  rw [exec_slotStart next, beginSlot_picks owns picks]
  refine ⟨fun c place f dir src dst xch offers => ?channel, fun j place => ?context⟩
  case channel =>
    have frame : channelFrame c s = f := by
      show _ = Frame.mk f.kind f.dir f.tgl f.src f.dst f.xch f.payload
      rw [dir, src, dst, xch]
      rcases offers with ⟨state, kind, tgl, spells⟩ | ⟨state, kind, tgl, payload⟩ | ⟨state, kind, tgl, payload⟩ |
        ⟨state, kind, tgl, payload⟩
      · have payload : f.payload = (s.channel c).desc.requestBody.payload := by
          rw [requestBody_payload]
          rcases spells with ⟨moves, payload⟩ | ⟨lists, payload⟩
          · rw [if_neg moves, payload]
          · rw [if_pos lists, payload, lists]
            rfl
        rw [kind, tgl, payload]
        simp only [channelFrame, state]
      all_goals
        rw [kind, tgl, payload]
        simp only [channelFrame, state]
    rw [beginPick_channel place, frame]
  case context => exact congrArg Host.Outcome.next (beginPick_context place _)

end Sys2Proof.Machine

/-! PROOFS. The reply gap and the outcomes of asks (R8, R9, R16 to R18, R103, R104, R125, R154, R156). -/

namespace Sys2Proof.Machine

/-! ### What is pending on a channel -/

section
variable {s : State} {c : ChannelNo}

theorem ChannelState.not_ended_of_phase {st : ChannelState} (going : st.phase ≠ none ∨ st = .aborting) :
    st.ended = false := by
  revert going
  cases st <;> decide

theorem applyPending_ended (ended : (s.channel c).state.ended = true) : applyPending c s = s := if_pos ended

theorem applyPending_end {r : Condition} (going : (s.channel c).state.ended = false)
    (pending : (s.channel c).endPending = some r) : applyPending c s = endChannel c r 0 s := by
  simp only [applyPending, going, pending, Bool.false_eq_true, if_false]

theorem applyPending_hold {p : HeldPhase} (noEnd : (s.channel c).endPending = none)
    (phase : (s.channel c).state.phase = some p) (pending : (s.channel c).holdPending = true) :
    applyPending c s = enterHeld c p s := by
  have going := ChannelState.not_ended_of_phase (.inl (by rw [phase]; exact Option.some_ne_none p))
  simp only [applyPending, going, noEnd, phase, pending, Bool.false_eq_true, if_false, if_true]

theorem applyPending_none (noEnd : (s.channel c).endPending = none) (noHold : (s.channel c).holdPending = false) :
    applyPending c s = s := by
  unfold applyPending
  dsimp only
  rw [noEnd, noHold]
  repeat' split
  all_goals first | rfl | contradiction

/-! ### No answer to a channel -/

/-- The record of a channel whose ask was not answered: no ask in flight, one attempt more (R103). -/
def Channel.unanswered (ch : Channel) : Channel := { ch with askInFlight := false, attempts := ch.attempts + 1 }

theorem setAttempts_setChannel (s : State) (c : ChannelNo) (n : Nat) (ch : Channel) :
    setAttempts c n (s.setChannel c ch) = s.setChannel c { ch with attempts := n } := by
  rw [setAttempts, State.setChannel_channel_same, State.setChannel_setChannel]

theorem channelOutcome_noAnswer (s : State) (c : ChannelNo) :
    channelOutcome c .noAnswer s =
      applyPending c (if (s.channel c).attempts + 1 < s.attemptLimit then s.setChannel c (s.channel c).unanswered
        else endExhausted c (s.setChannel c (s.channel c).unanswered)) := by
  have counts : setAttempts c ((s.channel c).attempts + 1) (s.setChannel c { s.channel c with askInFlight := false }) =
      s.setChannel c (s.channel c).unanswered := setAttempts_setChannel s c _ _
  show applyPending c (channelNoAnswer c (s.setChannel c { s.channel c with askInFlight := false })) = _
  rw [channelNoAnswer, State.setChannel_channel_same, counts]
  rfl

/-- Below the limit one attempt is counted, and then what is pending is applied (R103, R104). -/
theorem channelOutcome_counts (below : (s.channel c).attempts + 1 < s.attemptLimit) :
    channelOutcome c .noAnswer s = applyPending c (s.setChannel c (s.channel c).unanswered) := by
  rw [channelOutcome_noAnswer, if_pos below]

/-- What an exchange ends with at the limit, by its state (R105, R109, R117, R133). -/
theorem endExhausted_eq (asked : (s.channel c).state.phase ≠ none ∨ (s.channel c).state = .aborting) :
    endExhausted c s = endChannel c (exhaustedCondition (s.channel c)) 0 s := by
  have cond : ∀ st, (s.channel c).state = st → exhaustedCondition (s.channel c) =
      if st = .close ∧ (s.channel c).timeoutMark = true then .dataTimeout
      else if st = .aborting then (s.channel c).abortReason.condition else .retryExhausted := by
    rintro _ rfl
    rfl
  unfold endExhausted
  dsimp only
  split
  · rename_i state
    rw [cond _ state]
    rfl
  · rename_i state
    rw [cond _ state]
    rfl
  · rename_i state
    rw [cond _ state]
    cases (s.channel c).timeoutMark <;> rfl
  · rename_i state
    rw [cond _ state]
    rfl
  · rename_i notRequest notData notClose notAborting
    rcases asked with phase | aborting
    · cases state : (s.channel c).state <;> rw [state] at phase <;> first | exact absurd rfl phase | contradiction
    · exact absurd aborting notAborting

theorem endChannel_ended (s : State) (c : ChannelNo) (cond : Condition) (detail : Byte) :
    ((endChannel c cond detail s).channel c).state.ended = true := by
  rw [(endChannel_ends s c cond detail).record]
  dsimp only
  split <;> rfl

/-- At the limit the channel ends, and nothing pending is left to apply (R103, R118; log 33). -/
theorem channelOutcome_exhausts (limit : s.attemptLimit ≤ (s.channel c).attempts + 1)
    (asked : (s.channel c).state.phase ≠ none ∨ (s.channel c).state = .aborting) :
    channelOutcome c .noAnswer s =
      endChannel c (exhaustedCondition (s.channel c)) 0 (s.setChannel c (s.channel c).unanswered) := by
  have record : (s.setChannel c (s.channel c).unanswered).channel c = (s.channel c).unanswered :=
    State.setChannel_channel_same ..
  rw [channelOutcome_noAnswer, if_neg (Nat.not_lt_of_le limit), endExhausted_eq (by rwa [record]), record,
    applyPending_ended (endChannel_ended ..)]
  rfl

end

/-! ### No answer to a context -/

section
variable {s : State} {k : SlotNo}

/-- The record of a context whose DATA was not answered (R154). -/
def Context.unanswered (x : Context) : Context := { x with askInFlight := false, attempts := x.attempts + 1 }

theorem State.setContext_setContext (s : State) (k : SlotNo) (x y : Context) :
    (s.setContext k x).setContext k y = s.setContext k y := by
  simp only [State.setContext, State.setCtxs_ctxs, Vector.set_set]
  rfl

theorem contextOutcome_discards (o : AskOutcome) (idle : (s.context k).askInFlight = false) :
    contextOutcome k o s = s := if_neg (by rw [idle]; exact Bool.false_ne_true)

theorem contextOutcome_noAnswer (asks : (s.context k).askInFlight = true) :
    contextOutcome k .noAnswer s =
      if (s.context k).attempts + 1 < s.attemptLimit then s.setContext k (s.context k).unanswered
      else endContext k .retryExhausted (s.setContext k (s.context k).unanswered) := by
  refine (if_pos asks).trans ?_
  show contextNoAnswer k (s.setContext k { s.context k with askInFlight := false }) = _
  rw [contextNoAnswer, State.setContext_context_same, State.setContext_setContext]
  rfl

end

/-! ### The gap -/

section
variable {s : State}

theorem exec_replyGapClose (gap : s.lau.phase = .replyGap) :
    exec .replyGapClose s = .next (resolveAsk .noAnswer ((s.setPhase .quiet).setAnswer none)) := by
  have row : exec .replyGapClose s = .next (closeGap s) := rfl
  rw [row]
  simp only [closeGap, gap]

theorem resolveAsk_none (o : AskOutcome) (none : s.lau.ask = none) : resolveAsk o s = s := by
  simp only [resolveAsk, none]

theorem resolveAsk_station {a : Ask} (o : AskOutcome) (asks : s.lau.ask = some a) (source : a.source = .station) :
    resolveAsk o s = s.setAsk none := by
  simp only [resolveAsk, asks, source]

theorem resolveAsk_channel {a : Ask} {c : ChannelNo} (o : AskOutcome) (asks : s.lau.ask = some a)
    (source : a.source = .channel c) : resolveAsk o s = channelOutcome c o (s.setAsk none) := by
  simp only [resolveAsk, asks, source]

theorem resolveAsk_context {a : Ask} {k : SlotNo} (o : AskOutcome) (asks : s.lau.ask = some a)
    (source : a.source = .context k) : resolveAsk o s = contextOutcome k o (s.setAsk none) := by
  simp only [resolveAsk, asks, source]

/-- The gap that closes on an ask gives it to its source (R8, R16). -/
theorem exec_replyGapClose_channel {a : Ask} {c : ChannelNo} (gap : s.lau.phase = .replyGap) (asks : s.lau.ask = some a)
    (source : a.source = .channel c) : exec .replyGapClose s = .next (channelOutcome c .noAnswer (gapClosed s)) := by
  rw [exec_replyGapClose gap, resolveAsk_channel (s := (s.setPhase .quiet).setAnswer none) _ asks source]
  rfl

theorem exec_replyGapClose_context {a : Ask} {k : SlotNo} (gap : s.lau.phase = .replyGap) (asks : s.lau.ask = some a)
    (source : a.source = .context k) : exec .replyGapClose s = .next (contextOutcome k .noAnswer (gapClosed s)) := by
  rw [exec_replyGapClose gap, resolveAsk_context (s := (s.setPhase .quiet).setAnswer none) _ asks source]
  rfl

theorem exec_replyGapAnswer : exec .replyGapAnswer s = .next (answerInGap s) := rfl

theorem answerInGap_else (other : s.lau.phase ≠ .replyGap) : answerInGap s = s.setAnswer none := by
  unfold answerInGap
  split
  · exact absurd ‹_› other
  · rfl

end

/-- Settles O13. -/
theorem replyGap : Obligations.ReplyGap := by
  intro s
  refine ⟨fun f gap handed mode => ?answers, fun other => congrArg Host.Outcome.next (answerInGap_else other),
    fun gap none => ?closes, fun a gap asks => ⟨fun c ch source is below going =>
      ⟨fun noEnd noHold => ?still, fun r pending => ?ends, fun p noEnd pending phase => ?holds⟩,
      fun k source asked below => ?context, fun k source idle => ?discards⟩⟩
  case answers =>
    rw [exec_replyGapAnswer]
    simp only [answerInGap, gap, handed, if_pos mode]
  case closes =>
    rw [exec_replyGapClose gap, resolveAsk_none (s := (s.setPhase .quiet).setAnswer Option.none) _ none, gapClosed, ← none]
    rfl
  case context =>
    rw [exec_replyGapClose_context gap asks source, contextOutcome_noAnswer (by exact asked)]
    exact congrArg Host.Outcome.next (if_pos below)
  case discards => rw [exec_replyGapClose_context gap asks source, contextOutcome_discards _ (by exact idle)]
  all_goals
    subst is
    have record : ((gapClosed s).setChannel c (s.channel c).unanswered).channel c = (s.channel c).unanswered :=
      State.setChannel_channel_same ..
    have outcome : exec .replyGapClose s =
        .next (applyPending c ((gapClosed s).setChannel c (s.channel c).unanswered)) := by
      rw [exec_replyGapClose_channel gap asks source, channelOutcome_counts (by exact below)]
      rfl
    rw [outcome]
  case still => rw [applyPending_none (by rwa [record]) (by rwa [record])]; rfl
  case ends =>
    refine ⟨_, ?_, endChannel_ends _ c r 0⟩
    rw [applyPending_end (by rw [record]; exact ChannelState.not_ended_of_phase going) (by rwa [record])]
    rfl
  case holds =>
    refine ⟨_, ?_, enterHeld_held _ c p⟩
    rw [applyPending_hold (by rwa [record]) (by rwa [record]) (by rwa [record])]
    rfl

end Sys2Proof.Machine

/-! PROOFS. The last attempt of a source (R18, R103, R105, R109, R117, R133, R154). -/

namespace Sys2Proof.Machine

section
variable {s : State} {c : ChannelNo} {k : SlotNo}

theorem gapOf_of {a : Ask} (gap : s.lau.phase = .replyGap) (asks : s.lau.ask = some a) : gapOf a.source s = true := by
  simp [gapOf, gap, asks]

theorem gapOf_of_phase_ne (src : Source) (other : s.lau.phase ≠ .replyGap) : gapOf src s = false := by
  simp [gapOf, other]

/-- The row that names the limit is the close of the gap on the last attempt (log 11). -/
theorem exec_retryExhausted_gap (gap : gapOf (.channel c) s = true)
    (limit : s.attemptLimit ≤ (s.channel c).attempts + 1) : exec (.retryExhausted c) s = exec .replyGapClose s :=
  congrArg Host.Outcome.next (if_pos ⟨gap, limit⟩)

theorem exec_contextRetryExhausted_gap (gap : gapOf (.context k) s = true)
    (limit : s.attemptLimit ≤ (s.context k).attempts + 1) :
    exec (.contextRetryExhausted k) s = exec .replyGapClose s :=
  congrArg Host.Outcome.next (if_pos ⟨gap, limit⟩)

/-- Outside a gap the row ends a channel whose count stands at the limit (log 11). -/
theorem exec_retryExhausted_stands (other : s.lau.phase ≠ .replyGap) (idle : (s.channel c).askInFlight = false)
    (limit : s.attemptLimit ≤ (s.channel c).attempts) :
    exec (.retryExhausted c) s = .next (endExhausted c s) := by
  refine congrArg Host.Outcome.next ((if_neg fun h => ?_).trans (if_pos ⟨idle, limit⟩))
  exact absurd h.1 (by rw [gapOf_of_phase_ne _ other]; exact Bool.false_ne_true)

theorem exec_contextRetryExhausted_stands (other : s.lau.phase ≠ .replyGap) (idle : (s.context k).askInFlight = false)
    (sending : (s.context k).state = .sending) (limit : s.attemptLimit ≤ (s.context k).attempts) :
    exec (.contextRetryExhausted k) s = .next (endContext k .retryExhausted s) := by
  refine congrArg Host.Outcome.next ((if_neg fun h => ?_).trans (if_pos ⟨idle, sending, limit⟩))
  exact absurd h.1 (by rw [gapOf_of_phase_ne _ other]; exact Bool.false_ne_true)

end

/-- Settles O14. -/
theorem lastAttemptEnds : Obligations.LastAttemptEnds := by
  intro s
  refine ⟨fun a c ch i gap asks source is limit asked row _ => ?channelGap,
    fun a k x i gap asks source asked is limit row => ?contextGap,
    fun c other idle limit asked _ => ⟨_, ?_, endChannel_ends ..⟩,
    fun k other idle sending limit =>
      ⟨_, exec_contextRetryExhausted_stands other idle sending limit, endContext_ends ..⟩⟩
  case channelGap =>
    subst is
    have gapClose : exec i s = exec .replyGapClose s := by
      rcases row with rfl | rfl
      · rfl
      · exact exec_retryExhausted_gap (source ▸ gapOf_of gap asks) limit
    refine ⟨_, ?_, endChannel_ends ..⟩
    rw [gapClose, exec_replyGapClose_channel gap asks source, channelOutcome_exhausts (by exact limit) (by exact asked)]
    rfl
  case contextGap =>
    subst is
    have gapClose : exec i s = exec .replyGapClose s := by
      rcases row with rfl | rfl
      · rfl
      · exact exec_contextRetryExhausted_gap (source ▸ gapOf_of gap asks) limit
    refine ⟨_, ?_, endContext_ends ..⟩
    rw [gapClose, exec_replyGapClose_context gap asks source, contextOutcome_noAnswer (by exact asked)]
    exact congrArg Host.Outcome.next (if_neg (Nat.not_lt_of_le limit))
  · rw [exec_retryExhausted_stands other idle limit, endExhausted_eq asked]

end Sys2Proof.Machine

/-! PROOFS. The end of an own transmission and of a jam, and a withdrawal that waits for it (R7, R9, R13, R16, R19, R52
to R56, R61, R70, R71). -/

namespace Sys2Proof.Machine

/-! ### The end of a frame, but for a pending withdrawal -/

/-- What the last bit of an own frame does before a pending withdrawal is looked at (R13, R16, R19). -/
def frameSent (x : Transmission) (s : State) : State :=
  let s₁ := (s.setLau { s.lau with clash := 0 }).setLineActive false
  match x.source with
  | none => (s₁.setL x.frame.dst false).setPhase .quiet
  | some _ => askSent x.frame s₁

section
variable {s : State} {x : Transmission} {src : Source}

theorem exec_transmissionEnd (sends : s.lau.phase = .transmitting x) (noJam : x.jam = false) :
    exec .transmissionEnd s = .next (applyWithdrawal (frameSent x s)) := by
  have row : exec .transmissionEnd s = .next (endTransmission s) := rfl
  rw [row]
  simp only [endTransmission, sends, noJam, Bool.false_eq_true, if_false]
  rfl

theorem frameSent_answer (source : x.source = none) : frameSent x s = ownFrameSent s .quiet x.frame.dst := by
  simp only [frameSent, source]
  rfl

theorem FrameKind.not_broadcast {k : FrameKind} (kind : k.addressedAsk = true) : k.broadcast = false := by
  revert kind
  cases k <;> decide

theorem frameSent_addressed (source : x.source = some src) (kind : x.frame.kind.broadcast = false) :
    frameSent x s = restartPresence (ownFrameSent s .replyGap x.frame.src) := by
  simp only [frameSent, source]
  exact if_neg (by rw [kind]; exact Bool.false_ne_true)

theorem frameSent_broadcast (source : x.source = some src) (kind : x.frame.kind.broadcast = true) :
    frameSent x s = broadcastSent x.frame.kind ((ownFrameSent s .quiet x.frame.src).setAsk none) := by
  simp only [frameSent, source]
  exact if_pos kind

theorem restartPresence_online (online : s.station.mode = .online) :
    restartPresence s = (s.setPeers { s.peers with presenceTimer := some s.presenceLength }).setStation
      { s.station with presenceDue := false } := if_pos online

theorem restartPresence_else (other : s.station.mode ≠ .online) : restartPresence s = s := if_neg other

theorem applyWithdrawal_none (none : s.station.withdrawPending = false) : applyWithdrawal s = s :=
  if_neg (by rw [none]; exact Bool.false_ne_true)

/-! ### WITHDRAWN by the own LEAVE -/

theorem enterWithdrawn_eq (s : State) :
    enterWithdrawn s = ((((s.setStation (s.station.silentIn .withdrawn)).setLau s.lau.silenced).setPeers
      (PeerTable.cleared s.station.number (s.peer s.station.number).joinCount))).setPort { s.port with
        notices := { s.port.notices with
          stateChange := true, peerChange := s.port.notices.peerChange || s.anyPresent } } := by
  unfold enterWithdrawn
  rw [clearPeersNoticed_eq]
  rfl

end

/-- Settles O15. -/
theorem transmissionEnds : Obligations.TransmissionEnds := by
  intro s x sends noJam noPending
  have row {t : State} (sent : frameSent x s = t) (pending : t.station.withdrawPending = false) :
      exec .transmissionEnd s = .next t := by
    rw [exec_transmissionEnd sends noJam, sent, applyWithdrawal_none pending]
  refine ⟨fun source => row (frameSent_answer source) noPending, fun src source => ⟨fun kind online => ?_, fun kind other => ?_,
    fun kind online => ?_, fun kind => ?_, fun kind => ?_⟩⟩
  · exact row ((frameSent_addressed source (FrameKind.not_broadcast kind)).trans (restartPresence_online
      (by exact online))) noPending
  · exact row ((frameSent_addressed source (FrameKind.not_broadcast kind)).trans (restartPresence_else
      (by exact other))) noPending
  · refine row ((frameSent_broadcast source (by rw [kind]; rfl)).trans ?_) noPending
    rw [kind]
    exact restartPresence_online (by exact online)
  · have sent := frameSent_broadcast (s := s) source (by rw [kind]; rfl)
    rw [kind] at sent
    refine ⟨_, row (sent.trans (restartPresence_online rfl)) noPending, rfl, rfl, fun p => ?_, rfl⟩
    by_cases own : p = s.station.number
    · subst own
      rw [if_pos rfl]
      exact State.setPeer_peer_same ..
    · rw [if_neg own]
      exact State.setPeer_peer_other _ _ _ _ own
  · have sent := frameSent_broadcast (s := s) source (by rw [kind]; rfl)
    rw [kind] at sent
    exact ⟨_, row (sent.trans (enterWithdrawn_eq _)) rfl, rfl, peersCleared s _ rfl, rfl, rfl⟩

/-! ### A withdrawal that waits -/

/-- The state with a withdrawal pending (R54). -/
def State.waitsToWithdraw (s : State) : State := s.setStation { s.station with withdrawPending := true }

section
variable {s u : State} {x : Transmission} {active : Bool}

theorem restartPresence_waits (s : State) :
    restartPresence s.waitsToWithdraw = (restartPresence s).waitsToWithdraw := by
  by_cases online : s.station.mode = .online
  · rw [restartPresence_online online]
    exact restartPresence_online (by exact online)
  · rw [restartPresence_else online]
    exact restartPresence_else (by exact online)

theorem enterWithdrawn_waits (s : State) : enterWithdrawn s.waitsToWithdraw = enterWithdrawn s := by
  rw [enterWithdrawn_eq, enterWithdrawn_eq]
  rfl

theorem broadcastSent_waits (kind : FrameKind) (s : State) :
    broadcastSent kind s.waitsToWithdraw = (broadcastSent kind s).waitsToWithdraw ∨
      (broadcastSent kind s.waitsToWithdraw = broadcastSent kind s ∧
        (broadcastSent kind s).station.mode = .withdrawn) := by
  cases kind with
  | leave =>
    right
    refine ⟨enterWithdrawn_waits s, ?_⟩
    have row : broadcastSent .leave s = enterWithdrawn s := rfl
    rw [row, enterWithdrawn_eq]
    rfl
  | join =>
    left
    have row : broadcastSent .join s = restartPresence (enterMode .online
      ((s.setPeer s.station.number
        { s.peer s.station.number with joinCount := (s.peer s.station.number).joinCount + 1 }).setStation
        { s.station with joinReady := false })) := rfl
    rw [row, ← restartPresence_waits]
    rfl
  | _ => exact .inl (restartPresence_waits s)

/-- The frame's end keeps a pending withdrawal; only the own LEAVE, which reaches WITHDRAWN, drops it. -/
theorem frameSent_waits (x : Transmission) (s : State) :
    frameSent x s.waitsToWithdraw = (frameSent x s).waitsToWithdraw ∨
      (frameSent x s.waitsToWithdraw = frameSent x s ∧ (frameSent x s).station.mode = .withdrawn) := by
  cases source : x.source with
  | none =>
    left
    rw [frameSent_answer source, frameSent_answer source]
    rfl
  | some src =>
    cases kind : x.frame.kind.broadcast with
    | false =>
      left
      rw [frameSent_addressed source kind, frameSent_addressed source kind]
      exact restartPresence_waits (ownFrameSent s .replyGap x.frame.src)
    | true =>
      rw [frameSent_broadcast source kind, frameSent_broadcast source kind]
      exact broadcastSent_waits x.frame.kind ((ownFrameSent s .quiet x.frame.src).setAsk none)

theorem applyWithdrawal_pending (pending : s.station.withdrawPending = true) :
    applyWithdrawal s =
      if s.station.mode = .online then enterWithdrawing (s.setStation { s.station with withdrawPending := false })
      else if s.station.mode = .joining then
        withdrawAtOnce (s.setStation { s.station with withdrawPending := false })
      else s.setStation { s.station with withdrawPending := false } := by
  unfold applyWithdrawal
  rw [if_pos pending]
  split
  · rename_i online
    rw [if_pos online]
  · rename_i joining
    rw [if_neg (by rw [joining]; nofun), if_pos joining]
  · rename_i notOnline notJoining
    rw [if_neg notOnline, if_neg notJoining]

theorem restartPresence_withdrawPending (s : State) :
    (restartPresence s).station.withdrawPending = s.station.withdrawPending := by
  unfold restartPresence
  split <;> rfl

theorem broadcastSent_clear (kind : FrameKind) (clear : s.station.withdrawPending = false) :
    (broadcastSent kind s).station.withdrawPending = false := by
  cases kind with
  | leave =>
    have row : broadcastSent .leave s = enterWithdrawn s := rfl
    rw [row, enterWithdrawn_eq]
    rfl
  | _ => exact (restartPresence_withdrawPending _).trans clear

theorem frameSent_clear (clear : s.station.withdrawPending = false) :
    (frameSent x s).station.withdrawPending = false := by
  unfold frameSent
  dsimp only
  split
  · exact clear
  · unfold askSent
    dsimp only
    split
    · exact broadcastSent_clear _ clear
    · exact (restartPresence_withdrawPending _).trans clear

/-- The end of a transmission but for the withdrawal, whose only effect is the pending flag (R54). -/
theorem withdrawal_follows {t : State} {i : Instr} (runs : exec i s = .next (applyWithdrawal t))
    (same : t = u.waitsToWithdraw ∨ (t = u ∧ u.station.mode = .withdrawn))
    (clear : u.station.withdrawPending = false) :
    (u.station.mode = .online → ∃ t, exec i s = .next t ∧ EntersWithdrawing u t) ∧
    (u.station.mode = .joining → ∃ t, exec i s = .next t ∧ EntersWithdrawn u t) ∧
    (u.station.mode ≠ .online → u.station.mode ≠ .joining → exec i s = .next u) := by
  rcases same with rfl | ⟨rfl, mode⟩
  · have cleared : u.waitsToWithdraw.setStation { u.waitsToWithdraw.station with withdrawPending := false } = u := by
      rw [← clear]
      rfl
    have mode : u.waitsToWithdraw.station.mode = u.station.mode := rfl
    rw [runs, applyWithdrawal_pending (by rfl), cleared, mode]
    refine ⟨fun online => ⟨_, rfl, ?_⟩, fun joining => ⟨_, rfl, ?_⟩, fun notOnline notJoining => ?_⟩
    · rw [if_pos online]
      exact enterWithdrawing_enters u
    · rw [if_neg (by rw [joining]; nofun), if_pos joining]
      exact withdrawAtOnce_enters u
    · rw [if_neg notOnline, if_neg notJoining]
  · rw [runs, applyWithdrawal_none clear, mode]
    exact ⟨nofun, nofun, fun _ _ => rfl⟩

theorem exec_jamEnd (sends : s.lau.phase = .transmitting x) (jam : x.jam = true) :
    exec (.jamEnd active) s = .next (applyWithdrawal
      ((s.setPhase (if active then .receiving else .quiet)).setLineActive active)) := by
  have row : exec (.jamEnd active) s = .next (endJam active s) := rfl
  rw [row]
  simp only [endJam, sends, jam, if_true]

end

/-- Settles O17. -/
theorem pendingWithdrawal : Obligations.PendingWithdrawal := by
  intro s u x i sends pending row runs
  have waits : s = (s.setStation { s.station with withdrawPending := false }).waitsToWithdraw := by
    show _ = s.setStation { s.station with withdrawPending := true }
    rw [← pending]
    rfl
  have clear : (s.setStation { s.station with withdrawPending := false }).station.withdrawPending = false := rfl
  have phase : (s.setStation { s.station with withdrawPending := false }).lau.phase = .transmitting x := sends
  generalize s.setStation { s.station with withdrawPending := false } = b at runs waits clear phase
  rcases row with ⟨rfl, noJam⟩ | ⟨row, jam⟩
  · rw [exec_transmissionEnd phase noJam, applyWithdrawal_none (frameSent_clear clear)] at runs
    cases runs
    exact withdrawal_follows (exec_transmissionEnd sends noJam) (waits ▸ frameSent_waits x b) (frameSent_clear clear)
  · obtain ⟨active, rfl⟩ : ∃ active, i = .jamEnd active := by rcases row with rfl | rfl <;> exact ⟨_, rfl⟩
    rw [exec_jamEnd phase jam, applyWithdrawal_none (by exact clear)] at runs
    cases runs
    refine withdrawal_follows (exec_jamEnd sends jam) (.inl ?_) clear
    rw [waits]
    rfl

end Sys2Proof.Machine

/-! PROOFS. A collision, the possible clash it counts as, and the jam (R13, R14, R16, R18, R19, R57). -/

namespace Sys2Proof.Machine

/-! ### What an ask's outcome leaves as it is -/

section
variable (s : State) (o : AskOutcome)

/-- An ask's outcome reaches one engine, and empties the ask (R16). -/
theorem resolveAsk_only : EnginesOnly (s.setAsk none) (resolveAsk o s) := by
  cases asks : s.lau.ask with
  | none =>
    have same : s.setAsk none = s := by
      rw [← asks]
      rfl
    rw [resolveAsk_none o asks, same]
    exact EnginesOnly.refl s
  | some a =>
    cases source : a.source with
    | station =>
      rw [resolveAsk_station o asks source]
      exact EnginesOnly.refl _
    | channel c =>
      rw [resolveAsk_channel o asks source]
      exact EnginesOnly.ofChannels (channelOutcome_only _ c o)
    | context k =>
      rw [resolveAsk_context o asks source]
      exact EnginesOnly.ofContexts (contextOutcome_only _ k o)

@[simp] theorem resolveAsk_lau : (resolveAsk o s).lau = { s.lau with ask := none } := by rw [resolveAsk_only s o]; rfl
@[simp] theorem resolveAsk_stationBlock : (resolveAsk o s).station = s.station := by rw [resolveAsk_only s o]; rfl
@[simp] theorem resolveAsk_pins : (resolveAsk o s).pins = s.pins := by rw [resolveAsk_only s o]; rfl
@[simp] theorem resolveAsk_rx : (resolveAsk o s).rx = s.rx := by rw [resolveAsk_only s o]; rfl
@[simp] theorem resolveAsk_peers : (resolveAsk o s).peers = s.peers := by rw [resolveAsk_only s o]; rfl

end

/-- A record given to a channel with nothing pending stands (R104, R125). -/
theorem applyPending_setChannel_none (s : State) (c : ChannelNo) {ch : Channel} (noEnd : ch.endPending = none)
    (noHold : ch.holdPending = false) : applyPending c (s.setChannel c ch) = s.setChannel c ch :=
  applyPending_none (by rwa [State.setChannel_channel_same]) (by rwa [State.setChannel_channel_same])

/-! ### The collision -/

/-- The LAU at a readback mismatch, with the ask still in flight (R13, R14). -/
def jammed (x : Transmission) (s : State) : State :=
  (s.setPhase (.transmitting { x with jam := true })).setL 31 true

section
variable {s u : State} {x : Transmission}

theorem exec_collision (sends : s.lau.phase = .transmitting x) (noJam : x.jam = false) :
    exec .collision s = .next
      (if x.counts = true then countClash (resolveAsk .collided (jammed x s))
        else resolveAsk .collided (jammed x s)) := by
  have row : exec .collision s = .next (collide s) := rfl
  rw [row]
  simp only [collide, sends, noJam, Bool.false_eq_true, if_false]
  rfl

theorem Transmission.counts_iff : x.counts = true ↔ x.source = none ∨ x.recoveryRound = true := by
  simp [Transmission.counts]

/-- The row that names the third count is that collision (log 10). -/
theorem exec_clashCountLimit_collision (sends : s.lau.phase = .transmitting x) (noJam : x.jam = false)
    (counts : x.counts = true) (two : s.lau.clash = 2) : exec .clashCountLimit s = exec .collision s := by
  have last : lastCountedCollision s = true := by simp [lastCountedCollision, sends, noJam, counts, two]
  exact congrArg Host.Outcome.next ((if_neg (by omega)).trans (if_pos last))

theorem countClash_below (below : s.lau.clash < 2) :
    countClash s = s.setLau { s.lau with clash := s.lau.clash + 1 } := by
  have count : min (s.lau.clash + 1) 3 = s.lau.clash + 1 := by omega
  unfold countClash
  dsimp only
  rw [count]
  exact if_neg (by
    show ¬3 ≤ s.lau.clash + 1
    omega)

theorem countClash_third (two : s.lau.clash = 2) (onLine : s.station.mode.onLine = true) :
    countClash s = enterClash (s.setLau { s.lau with clash := 3 }) := by
  have count : min (s.lau.clash + 1) 3 = 3 := by omega
  unfold countClash
  dsimp only
  rw [count]
  exact (if_pos (Nat.le_refl 3)).trans (if_pos (by exact onLine))

/-- The outcome COLLIDED, by the source, with nothing pending: the frame is kept (R16, R18). -/
theorem resolveAsk_collided
    (is : (s.lau.ask = none ∧ u = collided s x) ∨
      (∃ a, s.lau.ask = some a ∧ a.source = .station ∧ u = collided s x) ∨
      (∃ a c, s.lau.ask = some a ∧ a.source = .channel c ∧ (s.channel c).endPending = none ∧
        (s.channel c).holdPending = false ∧ u = (collided s x).setChannel c { s.channel c with askInFlight := false }) ∨
      (∃ a k, s.lau.ask = some a ∧ a.source = .context k ∧ (s.context k).askInFlight = true ∧
        u = (collided s x).setContext k { s.context k with askInFlight := false })) :
    resolveAsk .collided (jammed x s) = u := by
  rcases is with ⟨asks, rfl⟩ | ⟨a, asks, source, rfl⟩ | ⟨a, c, asks, source, noEnd, noHold, rfl⟩ |
    ⟨a, k, asks, source, asked, rfl⟩
  · rw [resolveAsk_none _ (by exact asks), collided, ← asks]
    rfl
  · rw [resolveAsk_station _ (by exact asks) source]
    rfl
  · rw [resolveAsk_channel _ (by exact asks) source]
    exact applyPending_setChannel_none ((jammed x s).setAsk none) c (ch := { s.channel c with askInFlight := false })
      noEnd noHold
  · rw [resolveAsk_context _ (by exact asks) source]
    exact if_pos asked

end

/-- Settles O16. -/
theorem collisionAndJam : Obligations.CollisionAndJam := by
  intro s x sends
  refine ⟨fun noJam u is => ?collision, fun jam noPending => ?jam⟩
  case collision =>
    have row := exec_collision sends noJam
    have clash : u.lau.clash = s.lau.clash := by
      rw [← resolveAsk_collided is, resolveAsk_lau]
      rfl
    have station : u.station = s.station := by
      rw [← resolveAsk_collided is, resolveAsk_stationBlock]
      rfl
    rw [resolveAsk_collided is] at row
    refine ⟨fun ⟨source, later⟩ => ?_, fun counts => ⟨fun below => ?_, fun two onLine i which => ?_⟩⟩
    · rw [row, if_neg fun counts => ?_]
      rcases Transmission.counts_iff.mp counts with none | recovery
      · exact source none
      · rw [later] at recovery
        exact Bool.false_ne_true recovery
    · rw [row, if_pos (Transmission.counts_iff.mpr counts), countClash_below (by rwa [clash]), clash]
    · have same : exec i s = exec .collision s := by
        rcases which with rfl | rfl
        · rfl
        · exact exec_clashCountLimit_collision sends noJam (Transmission.counts_iff.mpr counts) two
      rw [same, row, if_pos (Transmission.counts_iff.mpr counts), countClash_third (clash.trans two) (by rwa [station])]
      exact ⟨_, rfl, enterClash_enters _⟩
  case jam =>
    constructor
    all_goals
      rw [exec_jamEnd sends jam, applyWithdrawal_none (by exact noPending)]
      rfl

end Sys2Proof.Machine

/-! PROOFS. The Frame Checker reads what is sent (R2, R23 to R25, R28, R35). -/

namespace Sys2Proof.Machine

/-! ### Bits and bytes -/

theorem byteOfBits_bits (b : Byte) :
    byteOfBits (b.getLsbD 7) (b.getLsbD 6) (b.getLsbD 5) (b.getLsbD 4) (b.getLsbD 3) (b.getLsbD 2) (b.getLsbD 1)
      (b.getLsbD 0) = b := by
  revert b
  decide

theorem bytesOfBits_bits (bs : List Byte) : bytesOfBits (bitsOfBytes bs) = some bs := by
  induction bs with
  | nil => rfl
  | cons b rest ih =>
    show (bytesOfBits (bitsOfBytes rest)).map (byteOfBits _ _ _ _ _ _ _ _ :: ·) = _
    rw [ih, byteOfBits_bits]
    rfl

theorem bitsOfBytes_length (bs : List Byte) : (bitsOfBytes bs).length = 8 * bs.length := by
  induction bs with
  | nil => rfl
  | cons b rest ih =>
    have first : bitsOfBytes (b :: rest) = bitsOfByte b ++ bitsOfBytes rest := rfl
    rw [first, List.length_append, ih, List.length_cons]
    show 8 + 8 * rest.length = _
    omega

theorem byteOf_toNat {n : Nat} (fits : n < 256) : (byteOf n).toNat = n := Nat.mod_eq_of_lt fits

/-! ### The header -/

/-- The first header byte is read back (R25, R28). -/
theorem firstByte_reads (k : FrameKind) (dir tgl : Bool) :
    FrameKind.ofCode ((byteOf (k.code * 16 + dir.toNat * 8 + tgl.toNat * 4)).toNat / 16) = some k ∧
      (byteOf (k.code * 16 + dir.toNat * 8 + tgl.toNat * 4)).toNat % 4 = 0 ∧
      (byteOf (k.code * 16 + dir.toNat * 8 + tgl.toNat * 4)).getLsbD 3 = dir ∧
      (byteOf (k.code * 16 + dir.toNat * 8 + tgl.toNat * 4)).getLsbD 2 = tgl := by
  cases k <;> cases dir <;> cases tgl <;> decide

theorem Frame.payload_le {f : Frame} (valid : f.valid = true) : f.payload.length ≤ 256 := by
  simp only [Frame.valid, Bool.and_eq_true] at valid
  obtain ⟨⟨⟨admits, _⟩, _⟩, _⟩ := valid
  revert admits
  cases f.kind <;> simp only [FrameKind.admits, beq_iff_eq, decide_eq_true_eq] <;> omega

theorem checkHeader_body {f : Frame} (valid : f.valid = true) : checkHeader f.body = .valid f := by
  obtain ⟨kind, low, dir, tgl⟩ := firstByte_reads f.kind f.dir f.tgl
  have src : (byteOf f.src.val).toNat = f.src.val := byteOf_toNat (by omega)
  have dst : (byteOf f.dst.val).toNat = f.dst.val := byteOf_toNat (by omega)
  have xch : (byteOf f.xch.val).toNat = f.xch.val := byteOf_toNat (by omega)
  have length := Frame.payload_le valid
  have len : (word (hi (BitVec.ofNat 16 f.payload.length)) (lo (BitVec.ofNat 16 f.payload.length))).toNat =
      f.payload.length := by
    rw [word_hi_lo, BitVec.toNat_ofNat]
    omega
  unfold Frame.body Frame.header
  simp only [List.cons_append, List.nil_append, checkHeader]
  simp only [kind, low, dir, tgl, src, dst, xch, len, f.src.isLt, f.dst.isLt, f.xch.isLt, and_self, true_and,
    dite_true, Fin.eta]
  exact if_pos valid

/-! ### The activity -/

theorem Frame.bytes_length (f : Frame) : f.bytes.length = f.payload.length + 10 := by
  simp only [Frame.bytes, Frame.body, Frame.header, bytes32, List.length_append, List.length_cons, List.length_nil]
  omega

theorem Frame.lineBits_length (f : Frame) : f.lineBits.length = 8 * f.payload.length + 104 := by
  unfold Frame.lineBits
  rw [List.length_append, bitsOfBytes_length, Frame.bytes_length]
  show 24 + _ = _
  omega

/-- Settles O18. -/
theorem frameCheckReadsWhatIsSent : Obligations.FrameCheckReadsWhatIsSent := by
  intro f valid
  have short := Frame.payload_le valid
  have length := Frame.lineBits_length f
  have start : (f.lineBits.drop 8).take 16 = preamble.drop 8 ++ delimiter := rfl
  have after : f.lineBits.drop 24 = bitsOfBytes f.bytes := rfl
  have split : f.bytes.length - 4 = f.body.length := by
    rw [Frame.bytes, List.length_append]
    rfl
  have check : f.bytes.drop f.body.length = bytes32 (crc f.body) := List.drop_left' rfl
  have body : f.bytes.take f.body.length = f.body := List.take_left' rfl
  unfold checkActivity Frame.activity
  dsimp only
  rw [if_neg (by decide), if_neg (by omega), if_neg (not_not.mpr start), after, bytesOfBits_bits]
  dsimp only
  rw [split, body, if_pos check, checkHeader_body valid]

end Sys2Proof.Machine

/-! PROOFS. The arrival of a frame: the LAU's part, the sender's entry, and the owner (R5 to R7, R13, R17, R20, R35 to
R39, R51, R62 to R69). -/

namespace Sys2Proof.Machine

/-! ### The frame a row stands for -/

theorem requestBodyOf_payload (q : RequestBody) : requestBodyOf q.payload = q := by
  show RequestBody.mk q.op q.windowId q.sizeCode q.zero (word (hi q.offset) (lo q.offset))
    (word (hi q.total) (lo q.total)) = q
  rw [word_hi_lo, word_hi_lo]

/-- A received-frame row is the arrival of its frame at its owner (R37, R38). -/
theorem exec_receivedFrame {s : State} {i : Instr} {f : Frame} (row : receivedFrame s.station.number i = some f) :
    exec i s = .next (arrive f (ownerOf f) s) := by
  cases i
  case requestReceived src dst xch q =>
    cases row
    have owner : ownerOf (requestFrame src dst xch q) = requestOwner (requestFrame src dst xch q) q :=
      congrArg (requestOwner (requestFrame src dst xch q)) (requestBodyOf_payload q)
    rw [owner]
    rfl
  case answerReceived src dst xch dir a =>
    cases row
    cases a <;> rfl
  all_goals
    cases row
    try rfl

/-! ### What every owner leaves as it is -/

/-- What an owner leaves as it is: the line, the station, and the LAU but for its ask and its answer (R38). -/
structure OwnerKeeps (s t : State) : Prop where
  pins : t.pins = s.pins
  rx : t.rx = s.rx
  station : t.station = s.station
  lau : t.lau = { s.lau with ask := t.lau.ask, answer := t.lau.answer }
  ask : s.lau.ask = none → t.lau.ask = none

namespace OwnerKeeps

theorem refl (s : State) : OwnerKeeps s s := ⟨rfl, rfl, rfl, rfl, id⟩

theorem trans {s t u : State} (h : OwnerKeeps s t) (g : OwnerKeeps t u) : OwnerKeeps s u :=
  ⟨g.pins.trans h.pins, g.rx.trans h.rx, g.station.trans h.station, by rw [g.lau, h.lau], fun none => g.ask (h.ask none)⟩

theorem ofEngines {s t : State} (h : EnginesOnly s t) : OwnerKeeps s t := by
  unfold EnginesOnly at h
  rw [h]
  exact ⟨rfl, rfl, rfl, rfl, id⟩

end OwnerKeeps

section
variable (s : State)

theorem setPeer_ownerKeeps (p : StationNo) (e : Peer) : OwnerKeeps s (s.setPeer p e) := ⟨rfl, rfl, rfl, rfl, id⟩

theorem raisePeerChange_ownerKeeps : OwnerKeeps s (raisePeerChange s) := ⟨rfl, rfl, rfl, rfl, id⟩

theorem refreshPeer_ownerKeeps (p : StationNo) : OwnerKeeps s (refreshPeer p s) := by
  unfold refreshPeer
  dsimp only
  split
  · exact setPeer_ownerKeeps ..
  · exact (setPeer_ownerKeeps ..).trans (raisePeerChange_ownerKeeps _)

theorem tellEngines_only (p : StationNo) (e : PeerEvent) : EnginesOnly s (tellEngines p e s) :=
  (EnginesOnly.ofChannels (channelsPeerEvent_only s p _)).trans (EnginesOnly.ofContexts (contextsPeerEvent_only _ p))

theorem peerGone_ownerKeeps (p : StationNo) (e : PeerEvent) : OwnerKeeps s (peerGone p e s) :=
  ((setPeer_ownerKeeps ..).trans (.ofEngines (tellEngines_only _ p e))).trans (raisePeerChange_ownerKeeps _)

theorem peerJoined_ownerKeeps (p : StationNo) (a : Announcement) : OwnerKeeps s (peerJoined p a s) := by
  unfold peerJoined
  dsimp only
  refine OwnerKeeps.trans ?_ (raisePeerChange_ownerKeeps _)
  split
  · exact (setPeer_ownerKeeps ..).trans (.ofEngines (tellEngines_only _ p _))
  · exact setPeer_ownerKeeps ..

theorem peerAnnounced_ownerKeeps (p : StationNo) (a : Announcement) : OwnerKeeps s (peerAnnounced p a s) := by
  unfold peerAnnounced
  dsimp only
  split
  · exact setPeer_ownerKeeps ..
  · exact (setPeer_ownerKeeps ..).trans (raisePeerChange_ownerKeeps _)

theorem peerLeaves_ownerKeeps (p : StationNo) : OwnerKeeps s (peerLeaves p s) := by
  unfold peerLeaves
  split
  · exact peerGone_ownerKeeps s p _
  · exact OwnerKeeps.refl s

theorem deliver_ownerKeeps (f : Frame) {act : State → Answer × State} (engines : EnginesOnly s (act s).2) :
    OwnerKeeps s (deliver f act s) := by
  unfold deliver
  split
  · exact (OwnerKeeps.ofEngines engines).trans ⟨rfl, rfl, rfl, rfl, id⟩
  · exact OwnerKeeps.refl s

theorem answerOwner_ownerKeeps (f : Frame) (a : Answer) : OwnerKeeps s (answerOwner f a s) := by
  unfold answerOwner
  split
  · exact (refreshPeer_ownerKeeps s f.src).trans
      ⟨resolveAsk_pins .., resolveAsk_rx .., resolveAsk_stationBlock .., by rw [resolveAsk_lau],
        fun _ => by rw [resolveAsk_lau]⟩
  · exact refreshPeer_ownerKeeps s f.src

theorem dataOwner_ownerKeeps (f : Frame) : OwnerKeeps s (dataOwner f s) := by
  unfold dataOwner
  split
  · refine (refreshPeer_ownerKeeps s f.src).trans (deliver_ownerKeeps _ f ?_)
    split
    · exact EnginesOnly.refl _
    · exact takeChannelData_only ..
  · exact (refreshPeer_ownerKeeps s f.src).trans
      (deliver_ownerKeeps _ f (byIdentity_only _ _ _ _ fun j => dataToContext_only _ j _ _))

theorem ownerOf_ownerKeeps (f : Frame) : OwnerKeeps s (ownerOf f s) := by
  have refreshed := refreshPeer_ownerKeeps s f.src
  unfold ownerOf
  split
  · exact peerJoined_ownerKeeps s _ _
  · exact peerAnnounced_ownerKeeps s _ _
  · exact peerLeaves_ownerKeeps s _
  · exact refreshed.trans (deliver_ownerKeeps _ f (.ofContexts (takeRequest_only _ _ _ _)))
  · exact dataOwner_ownerKeeps s f
  · exact refreshed.trans
      (deliver_ownerKeeps _ f (byIdentity_only _ _ _ _ fun j => .ofContexts (closeToContext_only _ j)))
  · exact refreshed.trans
      (deliver_ownerKeeps _ f (byIdentity_only _ _ _ _ fun j => .ofContexts (abortToContext_only _ j)))
  all_goals exact answerOwner_ownerKeeps s f _

end

/-! ### The arrival -/

section
variable {s : State} {f : Frame} {owner : State → State}

theorem hears_iff : (!s.lau.phase.hears || s.unseenActivity) = false ↔ Hears s := by
  rw [Bool.or_eq_false_iff, Bool.not_eq_false']
  rfl

theorem arrive_unheard (deaf : ¬Hears s) : arrive f owner s = s.setLineActive false := by
  have unheard : (!s.lau.phase.hears || s.unseenActivity) = true := by
    rw [← Bool.not_eq_false, hears_iff]
    exact deaf
  exact if_pos unheard

theorem arrive_heard (hears : Hears s) (valid : f.valid = true) : arrive f owner s =
    if f.src = s.station.number then reportClash ((s.setLineActive false).setRx f.bytes)
    else checkListening (owner (lauTakesFrame f ((s.setLineActive false).setRx f.bytes))) := by
  unfold arrive
  rw [if_neg (by rw [hears_iff.mpr hears]; exact Bool.false_ne_true),
    if_neg (by rw [valid]; exact Bool.false_ne_true)]

theorem matchesAsk_none (none : s.lau.ask = none) : s.matchesAsk f = false := by simp only [State.matchesAsk, none]

theorem lauTakesFrame_none (none : s.lau.ask = none) :
    lauTakesFrame f ((s.setLineActive false).setRx f.bytes) = s.afterFrame f := by
  unfold lauTakesFrame
  dsimp only
  rw [matchesAsk_none (by exact none), if_neg Bool.false_ne_true, resolveAsk_none _ (by exact none), State.afterFrame, ← none]
  rfl

/-- The arrival of another station's frame with no ask in flight is its owner's part alone (R37). -/
theorem arrive_takes (takes : Takes s f.src) (valid : f.valid = true) :
    arrive f (ownerOf f) s = ownerOf f (s.afterFrame f) := by
  obtain ⟨hears, none, known, other⟩ := takes
  have keeps := ownerOf_ownerKeeps (s.afterFrame f) f
  rw [arrive_heard hears valid, if_neg other, lauTakesFrame_none none]
  refine checkListening_of_not_waitsForL ?_
  unfold WaitsForL
  rwa [keeps.station]

theorem exec_takes {i : Instr} (row : receivedFrame s.station.number i = some f) (takes : Takes s f.src)
    (valid : f.valid = true) : exec i s = .next (ownerOf f (s.afterFrame f)) := by
  rw [exec_receivedFrame row, arrive_takes takes valid]

theorem refreshPeer_afterFrame (s : State) (f : Frame) : refreshPeer f.src (s.afterFrame f) = s.heard f := rfl

theorem deliver_else {act : State → Answer × State}
    (elsewhere : ¬(f.dst = s.station.number ∧ (s.station.mode = .online ∨ s.station.mode = .withdrawing))) :
    deliver f act s = s := if_neg elsewhere

/-- An addressed asking frame that is not for this station, or not in its state, refreshes its sender alone (R38). -/
theorem ownerOf_elsewhere (kind : f.kind.addressedAsk = true)
    (elsewhere : ¬(f.dst = s.station.number ∧ (s.station.mode = .online ∨ s.station.mode = .withdrawing))) :
    ownerOf f s = refreshPeer f.src s := by
  have undelivered (act : State → Answer × State) : deliver f act (refreshPeer f.src s) = refreshPeer f.src s :=
    deliver_else (by rwa [(refreshPeer_ownerKeeps s f.src).station])
  unfold ownerOf
  split <;> rename_i k
  all_goals first
    | exact undelivered _
    | (rw [k] at kind; exact absurd kind Bool.false_ne_true)
    | (unfold dataOwner; split <;> exact undelivered _)

/-- The owner of an answer is the ask in flight (R39). -/
theorem ownerOf_answer (kind : f.kind.answer = true) (s : State) : ∃ a, ownerOf f s = answerOwner f a s := by
  unfold ownerOf
  split <;> rename_i k
  all_goals first
    | exact ⟨_, rfl⟩
    | (rw [k] at kind; exact absurd kind Bool.false_ne_true)

theorem answerOwner_unmatched (unmatched : s.matchesAsk f = false) (a : Answer) :
    answerOwner f a s = refreshPeer f.src s := if_neg (by rw [unmatched]; exact Bool.false_ne_true)

end

end Sys2Proof.Machine

/-! PROOFS. Frames at the LAU and at the Peer Table (R5 to R7, R13, R16, R20, R35 to R39, R48, R57, R62 to R69, R121,
R166). -/

namespace Sys2Proof.Machine

section
variable {s : State} {f : Frame} {a : Activity}

/-! ### Corrupted activity -/

theorem endCorrupted_heard (hears : Hears s) (bytes : List Byte) : endCorrupted bytes s =
    checkListening ((((resolveAsk .noAnswer ((s.setLineActive false).setRx bytes)).setL 31 true).setPhase
      .quiet).setAnswer none) := by
  unfold endCorrupted
  rw [if_neg (by rw [hears_iff.mpr hears]; exact Bool.false_ne_true)]

theorem exec_corruptedFrame (bad : (Instr.corruptedFrame a).wellFormed = true) (s : State) :
    exec (.corruptedFrame a) s = .next (endCorrupted (bufferedBytes a) s) := by
  have row : exec (.corruptedFrame a) s = execCorruptedFrame a s := rfl
  rw [row, execCorruptedFrame]
  cases found : checkActivity a with
  | valid f =>
    simp only [Instr.wellFormed, found] at bad
    exact absurd bad Bool.false_ne_true
  | corrupted => rfl
  | malformed => rfl

end

/-- Settles O19. -/
theorem corruptedFrame : Obligations.CorruptedFrame := by
  intro s a hears bad none known
  rw [exec_corruptedFrame bad, endCorrupted_heard hears, resolveAsk_none _ (by exact none),
    checkListening_of_not_waitsForL (by exact known)]
  rfl

section
variable {s : State} {f : Frame}

/-! ### A valid frame at the LAU -/

theorem State.matchesAsk_answer (matched : s.matchesAsk f = true) : f.kind.answer = true := by
  cases asks : s.lau.ask with
  | none =>
    rw [matchesAsk_none asks] at matched
    exact absurd matched Bool.false_ne_true
  | some a =>
    simp only [State.matchesAsk, asks, Ask.isMatch, Bool.and_eq_true] at matched
    obtain ⟨⟨⟨⟨_, answers⟩, _⟩, _⟩, _⟩ := matched
    exact answers

theorem lauTakesFrame_lau (f : Frame) (s : State) : (lauTakesFrame f s).lau = { s.lau with
    phase := framePhase f, last := some (frameL f), recovery := false, answer := none,
    ask := if s.matchesAsk f = true then s.lau.ask else none } := by
  unfold lauTakesFrame
  by_cases matched : s.matchesAsk f = true
  · rw [if_pos matched, if_pos matched]
    rfl
  · rw [if_neg matched, if_neg matched]
    show Lau.mk _ _ _ (resolveAsk .noAnswer s).lau.clash (resolveAsk .noAnswer s).lau.pointer
      (resolveAsk .noAnswer s).lau.ask _ = _
    rw [resolveAsk_lau]
    rfl

theorem lauTakesFrame_line (f : Frame) (s : State) : (lauTakesFrame f s).pins = s.pins ∧
    (lauTakesFrame f s).rx = s.rx ∧ (lauTakesFrame f s).station = s.station := by
  unfold lauTakesFrame
  dsimp only
  split
  · exact ⟨rfl, rfl, rfl⟩
  · exact ⟨resolveAsk_pins s .noAnswer, resolveAsk_rx s .noAnswer, resolveAsk_stationBlock s .noAnswer⟩

/-- After the owner no ask is in flight: a frame that does not answer it has ended it, and the answer is its outcome
(R16, R17, R39). -/
theorem ownerOf_lauTakesFrame_ask (f : Frame) (s : State) : (ownerOf f (lauTakesFrame f s)).lau.ask = none := by
  have lau := lauTakesFrame_lau f s
  by_cases matched : s.matchesAsk f = true
  · rw [if_pos matched] at lau
    obtain ⟨a, owner⟩ := ownerOf_answer (s.matchesAsk_answer matched) (lauTakesFrame f s)
    have still : (lauTakesFrame f s).matchesAsk f = true := by
      obtain ⟨_, _, station⟩ := lauTakesFrame_line f s
      simp only [State.matchesAsk, lau, station] at matched ⊢
      exact matched
    rw [owner, answerOwner, if_pos still, resolveAsk_lau]
  · rw [if_neg matched] at lau
    exact (ownerOf_ownerKeeps _ f).ask (by rw [lau])

theorem checkListening_pins (s : State) : (checkListening s).pins = s.pins := by
  unfold checkListening
  split <;> rfl

theorem checkListening_rx (s : State) : (checkListening s).rx = s.rx := by
  unfold checkListening
  split <;> rfl

end

/-- Settles O20. -/
theorem receivedFramesAtLau : Obligations.ReceivedFramesAtLau := by
  intro s i f row
  refine ⟨fun hears valid other => ?_, fun deaf => ?_⟩
  · generalize heard : (s.setLineActive false).setRx f.bytes = b
    have keeps := ownerOf_ownerKeeps (lauTakesFrame f b) f
    obtain ⟨pins, rx, _⟩ := lauTakesFrame_line f b
    have lau := lauTakesFrame_lau f b
    have noAsk := ownerOf_lauTakesFrame_ask f b
    refine ⟨checkListening (ownerOf f (lauTakesFrame f b)), ?_, ?_, ?_, ?_⟩
    · rw [exec_receivedFrame row, arrive_heard hears valid, if_neg other, heard]
    · rw [checkListening_pins, keeps.pins, pins, ← heard]
      rfl
    · rw [checkListening_rx, keeps.rx, rx, ← heard]
      rfl
    · rw [checkListening_lau, noAsk, keeps.lau, lau, ← heard]
      exact ⟨rfl, rfl, rfl, rfl, rfl, rfl⟩
  · rw [exec_receivedFrame row, arrive_unheard deaf]
    rfl

/-- Settles O21. -/
theorem ownNumberIsClash : Obligations.OwnNumberIsClash := by
  intro s i f row hears valid own onLine
  refine ⟨_, ?_, enterClash_enters _⟩
  rw [exec_receivedFrame row, arrive_heard hears valid, if_pos own]
  exact congrArg Host.Outcome.next (if_pos onLine)

/-! ### The Peer Table -/

section
variable {s : State} {src : StationNo} {p : Announcement}

theorem exec_presenceReceived (takes : Takes s src) :
    exec (.presenceReceived src p) s = .next (peerAnnounced src p (s.afterFrame (announcementFrame .presence src p))) :=
  exec_takes (f := announcementFrame .presence src p) rfl takes rfl

theorem exec_joinFrameReceived (takes : Takes s src) :
    exec (.joinFrameReceived src p) s = .next (peerJoined src p (s.afterFrame (announcementFrame .join src p))) :=
  exec_takes (f := announcementFrame .join src p) rfl takes rfl

theorem exec_leaveReceived (takes : Takes s src) :
    exec (.leaveReceived src) s = .next (peerLeaves src (s.afterFrame (leaveFrame src))) :=
  exec_takes (f := leaveFrame src) rfl takes rfl

theorem State.present_iff : s.present src = true ↔ (s.peer src).state = .present := beq_iff_eq

end

/-- Settles O23. -/
theorem framesToThePeerTable : Obligations.FramesToThePeerTable := by
  refine ⟨fun s src p takes => ⟨fun present => ?_, fun absent => ?_⟩, fun s i f row valid takes kind => ?_⟩
  · rw [exec_presenceReceived takes]
    exact congrArg Host.Outcome.next (if_pos (by exact present))
  · have notPresent : (s.peer src).state ≠ .present := by rw [absent]; nofun
    rw [exec_presenceReceived takes, exec_joinFrameReceived takes, exec_leaveReceived takes]
    refine ⟨congrArg Host.Outcome.next (if_neg (by exact notPresent)), congrArg Host.Outcome.next ?_,
      congrArg Host.Outcome.next (if_neg fun present => notPresent (State.present_iff.mp present))⟩
    exact congrArg raisePeerChange (if_neg (by exact notPresent))
  · have refreshed : ownerOf f (s.afterFrame f) = refreshPeer f.src (s.afterFrame f) := by
      rcases kind with ⟨asks, elsewhere⟩ | answers
      · refine ownerOf_elsewhere asks ?_
        rintro ⟨dst, mode⟩
        rcases elsewhere with other | ⟨notOnline, notWithdrawing⟩
        · exact other dst
        · exact mode.elim notOnline notWithdrawing
      · obtain ⟨a, owner⟩ := ownerOf_answer answers (s.afterFrame f)
        rw [owner, answerOwner_unmatched (matchesAsk_none rfl)]
    rw [exec_takes row takes valid, refreshed]
    rfl

/-- Settles O24. -/
theorem peerEvents : Obligations.PeerEvents := by
  intro s p present
  have isPresent : s.present p = true := State.present_iff.mpr present
  refine ⟨fun ended => ⟨_, congrArg Host.Outcome.next (if_pos ⟨isPresent, (hasRunOut_iff _).mpr ended⟩),
    tellEngines_takes p .lost _⟩, fun takes => ⟨⟨_, ?_, tellEngines_takes p .left _⟩,
      fun a => ⟨_, ?_, tellEngines_takes p .restarted _⟩⟩⟩
  · rw [exec_leaveReceived takes]
    exact congrArg Host.Outcome.next (if_pos (by exact isPresent))
  · rw [exec_joinFrameReceived takes]
    exact congrArg Host.Outcome.next (congrArg raisePeerChange (if_pos (by exact present)))

end Sys2Proof.Machine

/-! PROOFS. Behind the line: what the engines do reads nothing of the line, the LAU and the listen timer, and leaves them
as they are. So an ask's outcome is the same before and after the LAU's part of the event that ends it (R8, R17, R36). -/

namespace Sys2Proof.Machine

/-! ### The line -/

/-- The part of the state that the line, the LAU and the listen timer are. -/
structure LineSide where
  pins : Pins
  rx : List Byte
  lau : Lau
  listenTimer : Option Nat

/-- The state with another line side. -/
def State.withLine (s : State) (n : LineSide) : State :=
  { s with pins := n.pins, rx := n.rx, lau := n.lau, station := { s.station with listenTimer := n.listenTimer } }

/-- An operation neither reads nor changes the line side. -/
def LineBlind (f : State → State) : Prop := ∀ s n, f (s.withLine n) = (f s).withLine n

theorem LineBlind.id : LineBlind fun s => s := fun _ _ => rfl

theorem LineBlind.comp {f g : State → State} (second : LineBlind f) (first : LineBlind g) : LineBlind fun s => f (g s) :=
  fun s n => (congrArg f (first s n)).trans (second _ n)

/-- A choice by what stands outside the line side. -/
theorem LineBlind.ite {c : State → Prop} [∀ s, Decidable (c s)] {f g : State → State}
    (same : ∀ s n, c (s.withLine n) ↔ c s) (yes : LineBlind f) (no : LineBlind g) :
    LineBlind fun s => if c s then f s else g s := fun s n => by
  by_cases chosen : c s
  · simp only [if_pos chosen, if_pos ((same s n).mpr chosen), yes s n]
  · simp only [if_neg chosen, if_neg fun h => chosen ((same s n).mp h), no s n]

theorem LineBlind.foldl {α : Type} {f : State → α → State} (each : ∀ x, LineBlind fun s => f s x) (places : List α) :
    LineBlind fun s => places.foldl f s := fun s n => by
  induction places generalizing s with
  | nil => rfl
  | cons x rest ih =>
    show rest.foldl f (f (s.withLine n) x) = (rest.foldl f (f s x)).withLine n
    rw [show f (s.withLine n) x = (f s x).withLine n from each x s n]
    exact ih _

theorem State.withLine_withLine (s : State) (n m : LineSide) : (s.withLine n).withLine m = s.withLine m := rfl

/-! ### Channels -/

section
variable (c : ChannelNo)

theorem State.withLine_channel (s : State) (n : LineSide) : (s.withLine n).channel c = s.channel c := rfl

theorem endChannel_lineBlind (cond : Condition) (detail : Byte) : LineBlind (endChannel c cond detail) := fun _ _ => rfl
theorem startChannel_lineBlind : LineBlind (startChannel c) := fun _ _ => rfl
theorem enterHeld_lineBlind (phase : HeldPhase) : LineBlind (enterHeld c phase) := fun _ _ => rfl
theorem enterClose_lineBlind : LineBlind (enterClose c) := fun _ _ => rfl
theorem claimFrame_lineBlind : LineBlind (claimFrame c) := fun _ _ => rfl
theorem setAttempts_lineBlind (count : Nat) : LineBlind (setAttempts c count) := fun _ _ => rfl

theorem chainTrigger_lineBlind : LineBlind (chainTrigger c) :=
  .ite (fun _ _ => .rfl)
    (.ite (fun _ _ => .rfl) (startChannel_lineBlind c) (endChannel_lineBlind c _ _)) .id

theorem endDone_lineBlind : LineBlind (endDone c) := fun s n => by
  unfold endDone
  dsimp only
  rw [State.withLine_channel]
  split
  · rfl
  · rename_i next _
    exact LineBlind.comp (chainTrigger_lineBlind next) (endChannel_lineBlind c .noError 0) s n

theorem countProgress_lineBlind : LineBlind (countProgress c) := fun s n => by
  unfold countProgress
  dsimp only
  rw [State.withLine_channel]
  split
  · rfl
  · split <;> rfl

theorem confirmBytes_lineBlind (count : Nat) : LineBlind (confirmBytes c count) := fun s n =>
  countProgress_lineBlind c (s.setChannel c { s.channel c with
    moved := (s.channel c).moved + count, remaining := (s.channel c).remaining - count,
    toggle := !(s.channel c).toggle }) n

theorem endExhausted_lineBlind : LineBlind (endExhausted c) := fun s n => by
  unfold endExhausted
  dsimp only
  rw [State.withLine_channel]
  split <;> rfl

theorem channelNoAnswer_lineBlind : LineBlind (channelNoAnswer c) :=
  .ite (fun _ _ => .rfl) (fun _ _ => rfl)
    (.comp (endExhausted_lineBlind c) (g := fun s => setAttempts c ((s.channel c).attempts + 1) s) fun _ _ => rfl)

theorem requestAccepted_lineBlind : LineBlind (requestAccepted c) := fun s n => by
  unfold requestAccepted
  dsimp only
  rw [State.withLine_channel]
  split
  · rfl
  · split <;> rfl

theorem requestTaken_lineBlind (a : Answer) : LineBlind (requestTaken c a) := by
  cases a with
  | accept => exact requestAccepted_lineBlind c
  | refuse r =>
    exact .ite (fun _ _ => .rfl)
      (.ite (fun _ _ => .rfl) (fun _ _ => rfl) (fun _ _ => rfl)) (fun _ _ => rfl)
  | report p => exact fun _ _ => rfl
  | ack t => exact channelNoAnswer_lineBlind c
  | wait => exact channelNoAnswer_lineBlind c

theorem putConfirmed_lineBlind : LineBlind (putConfirmed c) := fun s n => by
  have confirms := confirmBytes_lineBlind c (s.channel c).heldFrame.payload.length s n
  unfold putConfirmed
  dsimp only
  rw [State.withLine_channel, confirms]
  exact LineBlind.ite (c := fun t => (t.channel c).remaining = 0) (fun _ _ => .rfl) (enterClose_lineBlind c)
    (.ite (c := fun _ => (s.channel c).holdPending = true) (fun _ _ => .rfl)
      (f := fun t => t.setChannel c { t.channel c with built := false }) (fun _ _ => rfl) (claimFrame_lineBlind c))
    (setAttempts c 0 (confirmBytes c (s.channel c).heldFrame.payload.length s)) n

theorem putDataTaken_lineBlind (a : Answer) : LineBlind (putDataTaken c a) := by
  cases a with
  | accept => exact channelNoAnswer_lineBlind c
  | refuse r => exact fun _ _ => rfl
  | report p => exact .ite (fun _ _ => .rfl) (fun _ _ => rfl) (fun _ _ => rfl)
  | ack t => exact .ite (fun _ _ => .rfl) (putConfirmed_lineBlind c) (channelNoAnswer_lineBlind c)
  | wait => exact channelNoAnswer_lineBlind c

theorem closeReported_lineBlind (p : List Byte) : LineBlind (closeReported c p) :=
  .ite (fun _ _ => .rfl) (fun _ _ => rfl) (.ite (fun _ _ => .rfl) (fun _ _ => rfl) (.ite (fun _ _ => .rfl) (fun _ _ => rfl)
    (.ite (fun _ _ => .rfl) (fun _ _ => rfl) (.ite (fun _ _ => .rfl) (fun _ _ => rfl) (endDone_lineBlind c)))))

theorem closeTaken_lineBlind (a : Answer) : LineBlind (closeTaken c a) := by
  cases a with
  | accept => exact channelNoAnswer_lineBlind c
  | refuse r =>
    exact .ite (fun _ _ => .rfl) (fun _ _ => rfl) (.ite (fun _ _ => .rfl) (fun _ _ => rfl) (fun _ _ => rfl))
  | report p => exact LineBlind.comp (g := setAttempts c 0) (closeReported_lineBlind c p) (setAttempts_lineBlind c 0)
  | ack t => exact channelNoAnswer_lineBlind c
  | wait => exact channelNoAnswer_lineBlind c

theorem abortTaken_lineBlind (a : Answer) : LineBlind (abortTaken c a) := by
  cases a with
  | refuse r => exact fun _ _ => rfl
  | report p => exact fun _ _ => rfl
  | accept => exact channelNoAnswer_lineBlind c
  | ack t => exact channelNoAnswer_lineBlind c
  | wait => exact channelNoAnswer_lineBlind c

theorem channelTaken_lineBlind (a : Answer) : LineBlind (channelTaken c a) := fun s n => by
  unfold channelTaken
  rw [State.withLine_channel]
  split
  · exact requestTaken_lineBlind c a s n
  · split
    · exact putDataTaken_lineBlind c a s n
    · rfl
  · exact closeTaken_lineBlind c a s n
  · exact abortTaken_lineBlind c a s n
  · rfl

theorem applyPending_lineBlind : LineBlind (applyPending c) := fun s n => by
  unfold applyPending
  dsimp only
  rw [State.withLine_channel]
  split
  · rfl
  · split
    · rfl
    · split
      · split <;> rfl
      · rfl

theorem channelOutcome_lineBlind (o : AskOutcome) : LineBlind (channelOutcome c o) := by
  have kept : LineBlind fun s => s.setChannel c { s.channel c with askInFlight := false } := fun _ _ => rfl
  have applied {f : State → State} (blind : LineBlind f) :
      LineBlind fun s => applyPending c (f (s.setChannel c { s.channel c with askInFlight := false })) :=
    .comp (applyPending_lineBlind c) (.comp blind kept)
  cases o with
  | taken a => exact applied (channelTaken_lineBlind c a)
  | noAnswer => exact applied (channelNoAnswer_lineBlind c)
  | collided => exact applied .id

theorem interruptChannel_lineBlind (why : Condition) : LineBlind fun s => interruptChannel why s c := fun s n => by
  dsimp only
  unfold interruptChannel
  dsimp only
  rw [State.withLine_channel]
  split
  · split <;> rfl
  · split <;> rfl
  · split <;> rfl
  · rfl
  · split <;> rfl
  · rfl

end

/-! ### Contexts -/

section
variable (k : SlotNo)

theorem State.withLine_context (s : State) (n : LineSide) : (s.withLine n).context k = s.context k := rfl

theorem appendArrival_lineBlind (r : Arrival) : LineBlind (appendArrival r) :=
  .ite (fun _ _ => .rfl) (fun _ _ => rfl) (fun _ _ => rfl)

theorem raiseValid_lineBlind (x : Context) (r : Result) : LineBlind (raiseValid x r) :=
  .ite (fun _ _ => .rfl) (fun _ _ => rfl) .id

theorem endContext_lineBlind (r : Result) : LineBlind (endContext k r) := fun s n => by
  unfold endContext
  dsimp only
  rw [State.withLine_context, raiseValid_lineBlind _ r s n, appendArrival_lineBlind _ _ n]
  split <;> rfl

theorem freeContext_lineBlind : LineBlind (freeContext k) := fun _ _ => rfl

theorem endWhere_lineBlind (cond : Context → Bool) (r : Result) (freeing : Bool) :
    LineBlind fun s => endWhere cond r freeing s k :=
  .ite (fun _ _ => .rfl)
    (.ite (fun _ _ => .rfl) (endContext_lineBlind k r) (.ite (fun _ _ => .rfl) (freeContext_lineBlind k) .id)) .id

theorem buildData_lineBlind : LineBlind (buildData k) :=
  .ite (fun _ _ => .rfl) (fun _ _ => rfl) (.ite (fun _ _ => .rfl) (fun _ _ => rfl) (fun _ _ => rfl))

theorem contextNoAnswer_lineBlind : LineBlind (contextNoAnswer k) :=
  .ite (fun _ _ => .rfl) (fun _ _ => rfl)
    (.comp (endContext_lineBlind k .retryExhausted)
      (g := fun s => s.setContext k { s.context k with attempts := (s.context k).attempts + 1 }) fun _ _ => rfl)

theorem contextConfirmed_lineBlind : LineBlind (contextConfirmed k) :=
  .ite (fun _ _ => .rfl) (fun _ _ => rfl)
    (.comp (buildData_lineBlind k)
      (g := fun s => s.setContext k { s.context k with
        moved := (s.context k).moved + (s.context k).heldFrame.payload.length, toggle := !(s.context k).toggle,
        attempts := 0, idleTimer := some s.idleLength }) fun _ _ => rfl)

theorem contextTaken_lineBlind (a : Answer) : LineBlind (contextTaken k a) := by
  cases a with
  | ack t => exact .ite (fun _ _ => .rfl) (contextConfirmed_lineBlind k) (contextNoAnswer_lineBlind k)
  | wait => exact fun _ _ => rfl
  | refuse r =>
    exact .comp (endContext_lineBlind k .initiatorGone)
      (g := fun s => s.setContext k { s.context k with attempts := 0 }) fun _ _ => rfl
  | accept => exact contextNoAnswer_lineBlind k
  | report p => exact contextNoAnswer_lineBlind k

theorem contextOutcome_lineBlind (o : AskOutcome) : LineBlind (contextOutcome k o) := by
  have kept : LineBlind fun s => s.setContext k { s.context k with askInFlight := false } := fun _ _ => rfl
  cases o with
  | taken a => exact .ite (fun _ _ => .rfl) (.comp (contextTaken_lineBlind k a) kept) .id
  | noAnswer => exact .ite (fun _ _ => .rfl) (.comp (contextNoAnswer_lineBlind k) kept) .id
  | collided => exact .ite (fun _ _ => .rfl) kept .id

end

/-! ### The ask -/

section
variable {s : State} {n : LineSide}

/-- An ask's outcome is the same on another line side that holds the same ask (R16). -/
theorem resolveAsk_withLine (o : AskOutcome) (same : n.lau.ask = s.lau.ask) :
    resolveAsk o (s.withLine n) = (resolveAsk o s).withLine { n with lau := { n.lau with ask := none } } := by
  have emptied : (s.withLine n).setAsk none =
      (s.setAsk none).withLine { n with lau := { n.lau with ask := none } } := rfl
  cases asks : s.lau.ask with
  | none =>
    have kept : { n.lau with ask := none } = n.lau := by
      rw [← asks, ← same]
    rw [resolveAsk_none o (by exact same.trans asks), resolveAsk_none o asks, kept]
  | some a =>
    have asks' : (s.withLine n).lau.ask = some a := same.trans asks
    cases source : a.source with
    | station => rw [resolveAsk_station o asks' source, resolveAsk_station o asks source, emptied]
    | channel c =>
      rw [resolveAsk_channel o asks' source, resolveAsk_channel o asks source, emptied, channelOutcome_lineBlind c o]
    | context k =>
      rw [resolveAsk_context o asks' source, resolveAsk_context o asks source, emptied, contextOutcome_lineBlind k o]

end

end Sys2Proof.Machine

/-! PROOFS. An ask that what ends on the line does not answer (R8, R17, R36). -/

namespace Sys2Proof.Machine

section
variable (s : State)

/-- The line side of a state. -/
def State.lineSide (s : State) : LineSide :=
  { pins := s.pins, rx := s.rx, lau := s.lau, listenTimer := s.station.listenTimer }

/-- The state whose ask has ended NO_ANSWER, as it stands when the next event of the line comes (R8, R17). -/
def unansweredAhead : State :=
  (resolveAsk .noAnswer s).withLine { s.lineSide with lau := { s.lau with ask := none, answer := none } }

theorem unansweredAhead_number : (unansweredAhead s).station.number = s.station.number :=
  show (resolveAsk .noAnswer s).station.number = _ from congrArg Station.number (resolveAsk_stationBlock s .noAnswer)

theorem unansweredAhead_eq {u : State} (closes : exec .replyGapClose (s.setPhase .replyGap) = .next u) :
    u.setPhase s.lau.phase = unansweredAhead s := by
  rw [exec_replyGapClose rfl] at closes
  cases closes
  have ahead : resolveAsk .noAnswer (((s.setPhase .replyGap).setPhase .quiet).setAnswer none) = _ :=
    resolveAsk_withLine (s := s)
      (n := { s.lineSide with lau := { s.lau with phase := .quiet, answer := none } }) .noAnswer rfl
  rw [ahead]
  rfl

/-- What ends on the line ends an ask as it was before it (R17). -/
theorem resolveAsk_lineEnded (o : AskOutcome) (bytes : List Byte) :
    resolveAsk o ((s.setLineActive false).setRx bytes) = (resolveAsk o s).withLine
      { s.lineSide with pins := { s.pins with lineActive := false }, rx := bytes, lau := { s.lau with ask := none } } :=
  resolveAsk_withLine (s := s)
    (n := { s.lineSide with pins := { s.pins with lineActive := false }, rx := bytes }) o rfl

theorem endCorrupted_ahead (hears : Hears s) (bytes : List Byte) :
    endCorrupted bytes s = endCorrupted bytes (unansweredAhead s) := by
  rw [endCorrupted_heard hears, endCorrupted_heard (s := unansweredAhead s) hears, resolveAsk_lineEnded,
    resolveAsk_none (s := ((unansweredAhead s).setLineActive false).setRx bytes) _ rfl]
  rfl

theorem lauTakesFrame_ahead {f : Frame} (unmatched : s.matchesAsk f = false) :
    lauTakesFrame f ((s.setLineActive false).setRx f.bytes) =
      lauTakesFrame f (((unansweredAhead s).setLineActive false).setRx f.bytes) := by
  rw [lauTakesFrame_none (s := unansweredAhead s) rfl]
  unfold lauTakesFrame
  dsimp only
  rw [if_neg (by rw [show ((s.setLineActive false).setRx f.bytes).matchesAsk f = false from unmatched]
                 exact Bool.false_ne_true), resolveAsk_lineEnded]
  rfl

theorem arrive_ahead {f : Frame} (hears : Hears s) (valid : f.valid = true) (other : f.src ≠ s.station.number)
    (unmatched : s.matchesAsk f = false) (owner : State → State) :
    arrive f owner s = arrive f owner (unansweredAhead s) := by
  rw [arrive_heard hears valid, arrive_heard (s := unansweredAhead s) hears valid, if_neg other,
    if_neg (by rwa [unansweredAhead_number]), lauTakesFrame_ahead s unmatched]

end

/-- Settles O22. -/
theorem unansweredAskEnds : Obligations.UnansweredAskEnds := by
  intro s u i hears closes event
  rw [unansweredAhead_eq s closes]
  rcases event with ⟨a, rfl, bad⟩ | ⟨f, row, valid, other, unanswered⟩
  · rw [exec_corruptedFrame bad, exec_corruptedFrame bad, endCorrupted_ahead s hears]
  · have unmatched : s.matchesAsk f = false := by
      cases asks : s.lau.ask with
      | none => exact matchesAsk_none asks
      | some a =>
        refine Bool.eq_false_iff.mpr fun matched => unanswered a asks ?_
        simp only [State.matchesAsk, asks, Ask.isMatch, Bool.and_eq_true, beq_iff_eq] at matched
        obtain ⟨⟨⟨⟨asking, answers⟩, dst⟩, src⟩, xch⟩ := matched
        exact ⟨asking, answers, dst, src, xch⟩
    rw [exec_receivedFrame row, exec_receivedFrame (s := unansweredAhead s) (by rwa [unansweredAhead_number]),
      arrive_ahead s hears valid other unmatched]

end Sys2Proof.Machine

/-! PROOFS. A REQUEST at this station: its match, its checks in order, and the REFUSE (R26, R32, R38, R144 to R148). -/

namespace Sys2Proof.Machine

/-! ### The state after a frame refreshed its sender -/

section
variable (s : State) (f : Frame)

@[simp] theorem heard_station : (s.heard f).station = s.station := by unfold State.heard; dsimp only; split <;> rfl
@[simp] theorem heard_windows : (s.heard f).windows = s.windows := by unfold State.heard; dsimp only; split <;> rfl
@[simp] theorem heard_chans : (s.heard f).chans = s.chans := by unfold State.heard; dsimp only; split <;> rfl
@[simp] theorem heard_ctxs : (s.heard f).ctxs = s.ctxs := by unfold State.heard; dsimp only; split <;> rfl
@[simp] theorem heard_buffer : (s.heard f).buffer = s.buffer := by unfold State.heard; dsimp only; split <;> rfl

@[simp] theorem heard_window (w : Fin 8) : (s.heard f).window w = s.window w :=
  congrArg (fun ws : Vector Window 8 => ws[w.val]) (heard_windows s f)

@[simp] theorem heard_channel (c : ChannelNo) : (s.heard f).channel c = s.channel c :=
  congrArg (fun e : ChannelEngine => e.recs[c.val]) (heard_chans s f)

@[simp] theorem heard_context (k : SlotNo) : (s.heard f).context k = s.context k :=
  congrArg (fun e : ResponderEngine => e.slots[k.val]) (heard_ctxs s f)

end

/-! ### The owner's answer -/

section
variable {s : State} {f : Frame} {i : Instr} {act : State → Answer × State}

/-- A frame to this station, in ONLINE or WITHDRAWING, is answered by its owner (R26, R38). -/
theorem exec_delivered (row : receivedFrame s.station.number i = some f) (takes : Takes s f.src)
    (valid : f.valid = true) (owner : ownerOf f (s.afterFrame f) = deliver f act (s.heard f))
    (own : f.dst = s.station.number) (mode : s.station.mode = .online ∨ s.station.mode = .withdrawing) :
    exec i s = .next ((act (s.heard f)).2.setAnswer
      (some ((act (s.heard f)).1.frame (!f.dir) s.station.number f.src f.xch))) := by
  rw [exec_takes row takes valid, owner, deliver, if_pos (by rw [heard_station]; exact ⟨own, mode⟩), heard_station]

end

section
variable {s : State} {src dst : StationNo} {xch : ChannelNo} {q : RequestBody} {emptied : Option SlotNo}

theorem requestOf_eq : requestOf src dst xch q = requestFrame src dst xch q := by
  unfold requestOf requestFrame RequestBody.payload wordBytes
  rw [BitVec.ofNat_toNat, BitVec.ofNat_toNat, BitVec.setWidth_eq, BitVec.setWidth_eq]
  rfl

theorem exec_requestReceived (takes : Takes s src) (own : dst = s.station.number)
    (mode : s.station.mode = .online ∨ s.station.mode = .withdrawing) {a : Answer} {t : State}
    (taken : takeRequest src xch q (s.heard (requestOf src dst xch q)) = (a, t)) :
    exec (.requestReceived src dst xch q) s = .next (t.setAnswer (some
      (answerTo s (requestOf src dst xch q) a.kind a.tgl a.payload))) := by
  have owner : ownerOf (requestOf src dst xch q) (s.afterFrame (requestOf src dst xch q)) =
      deliver (requestOf src dst xch q) (takeRequest src xch q) (s.heard (requestOf src dst xch q)) := by
    rw [requestOf_eq]
    exact congrArg (fun body => requestOwner (requestFrame src dst xch q) body _) (requestBodyOf_payload q)
  rw [exec_delivered (f := requestOf src dst xch q) (by rw [requestOf_eq]; rfl) takes rfl owner own mode, taken]
  rfl

/-! ### The match (R145) -/

theorem supersede_matches (p : StationNo) (x : ChannelNo) (s : State) :
    RequestMatches p x (holder s p x) s (supersede p x s) := by
  unfold supersede
  cases found : holder s p x with
  | none => exact .inl ⟨rfl, holder_eq_none.mp found, rfl⟩
  | some k =>
    refine .inr ⟨k, rfl, holder_eq_some found, ?_⟩
    dsimp only
    split
    · exact .inl ⟨‹_›, freeContext_freed s k⟩
    · exact .inr ⟨‹_›, endContext_ends s k .superseded⟩

/-- The slot a match empties is FREE (R142, R145, R162). -/
theorem RequestMatches.emptied_free {p : StationNo} {x : ChannelNo} {u : State} {k : SlotNo}
    (matched : RequestMatches p x emptied s u) (is : emptied = some k) : (u.context k).state = .free := by
  subst is
  rcases matched with ⟨nothing, _⟩ | ⟨j, same, _, ⟨_, freed⟩ | ⟨_, ended⟩⟩
  · cases nothing
  · cases same
    rw [freed.record]
  · cases same
    rw [ended.record]
    rfl

/-! ### The checks (R146, R148) -/

theorem requestGood_iff : requestGood q = true ↔
    1 ≤ q.op.toNat ∧ q.op.toNat ≤ 3 ∧ q.sizeCode.toNat ≤ 4 ∧ q.windowId.toNat ≤ 7 ∧ q.total.toNat ≤ 32768 :=
  decide_eq_true_iff

theorem ofCode_list_iff : Op.ofCode q.op.toNat = .list ↔ q.op = 3#8 := by
  have code : q.op = 3#8 ↔ q.op.toNat = 3 := by rw [← BitVec.toNat_inj]; rfl
  rw [code]
  unfold Op.ofCode
  split <;> simp_all

theorem ofCode_put_iff : Op.ofCode q.op.toNat = .put ↔ q.op = 1#8 := by
  have code : q.op = 1#8 ↔ q.op.toNat = 1 := by rw [← BitVec.toNat_inj]; rfl
  rw [code]
  unfold Op.ofCode
  split <;> simp_all

/-- A slot can be taken where one is FREE or one lingers (R147). -/
theorem chooseSlot_isSome (free : ∀ k, emptied = some k → (s.context k).state = .free) :
    chooseSlot emptied s ≠ none ↔ (∃ k, (s.context k).state = .free) ∨ s.ctxs.linger ≠ [] := by
  cases emptied with
  | some k => exact ⟨fun _ => .inl ⟨k, free k rfl⟩, fun _ => Option.some_ne_none k⟩
  | none =>
    unfold chooseSlot
    dsimp only
    split
    · rename_i k found
      exact ⟨fun _ => .inl ⟨k, by simpa using List.find?_some found⟩, fun _ => Option.some_ne_none k⟩
    · rename_i found
      have noFree : ¬∃ k, (s.context k).state = .free := fun ⟨k, isFree⟩ =>
        List.find?_eq_none.mp found k (mem_allSlots k) (by rw [isFree]; rfl)
      rw [or_iff_right noFree, ne_eq, List.head?_eq_none_iff]

theorem rangesMeet_iff {off₁ total₁ off₂ total₂ : Nat} :
    rangesMeet off₁ total₁ off₂ total₂ = true ↔ ¬RangesApart off₁ total₁ off₂ total₂ := by
  unfold rangesMeet RangesApart
  rw [decide_eq_true_iff]
  omega

theorem windowOf_val (small : q.windowId.toNat ≤ 7) : (windowOf q).val = q.windowId.toNat :=
  Nat.mod_eq_of_lt (Nat.lt_succ_of_le small)

theorem conflicts_iff (small : q.windowId.toNat ≤ 7) :
    (allSlots.any fun k => conflicts (Op.ofCode q.op.toNat) q.windowId.toNat q.offset.toNat q.total.toNat
      (s.context k)) = true ↔
    ¬∀ k, (s.context k).state.active = true → (s.context k).op ≠ .list → (s.context k).windowId = windowOf q →
      ((s.context k).op = .put ∨ q.op = 1#8) →
      RangesApart q.offset.toNat q.total.toNat (s.context k).offset (s.context k).total := by
  have one (x : Context) : conflicts (Op.ofCode q.op.toNat) q.windowId.toNat q.offset.toNat q.total.toNat x = true ↔
      x.state.active = true ∧ x.op ≠ .list ∧ x.windowId = windowOf q ∧ (x.op = .put ∨ q.op = 1#8) ∧
        ¬RangesApart q.offset.toNat q.total.toNat x.offset x.total := by
    simp only [conflicts, Bool.and_eq_true, Bool.or_eq_true, bne_iff_ne, beq_iff_eq, rangesMeet_iff, ofCode_put_iff,
      Fin.ext_iff, windowOf_val small]
    constructor
    · rintro ⟨⟨⟨⟨active, notList⟩, window⟩, meets⟩, put⟩
      exact ⟨active, notList, window, put, meets⟩
    · rintro ⟨active, notList, window, put, meets⟩
      exact ⟨⟨⟨⟨active, notList⟩, window⟩, meets⟩, put⟩
  rw [List.any_eq_true]
  constructor
  · rintro ⟨k, _, meets⟩ apart
    obtain ⟨active, notList, window, put, meets⟩ := (one _).mp meets
    exact meets (apart k active notList window put)
  · intro notApart
    push Not at notApart
    obtain ⟨k, active, notList, window, put, meets⟩ := notApart
    exact ⟨k, mem_allSlots k, (one _).mpr ⟨active, notList, window, put, meets⟩⟩

theorem requestWindow_eq (q : RequestBody) : requestWindow q = windowOf q := rfl

theorem not_of_ne_true {b : Bool} (isFalse : ¬b = true) : (!b) = true := by
  rw [Bool.eq_false_iff.mpr isFalse]
  rfl

theorem ne_true_of_true {b : Bool} (isTrue : b = true) : ¬(!b) = true := by
  rw [isTrue]
  exact Bool.false_ne_true

/-- The first check that fails gives its reason (R146). -/
theorem requestRefusal_of_fails {p : StationNo} {reason : Byte}
    (free : ∀ k, emptied = some k → (s.context k).state = .free) (fails : FirstFails (requestChecks s p q) reason) :
    requestRefusal p q emptied s = some reason := by
  simp only [requestChecks, firstFails_cons] at fails
  unfold requestRefusal Window.admits Window.size
  dsimp only
  rw [requestWindow_eq]
  rcases fails with ⟨withdrawing, rfl⟩ | ⟨notWithdrawing, fails⟩
  · exact if_pos (not_not.mp withdrawing)
  rw [if_neg notWithdrawing]
  rcases fails with ⟨bad, rfl⟩ | ⟨good, fails⟩
  · exact if_pos (not_of_ne_true fun good => bad (requestGood_iff.mp good))
  rw [if_neg (ne_true_of_true (requestGood_iff.mpr good))]
  rcases fails with ⟨full, rfl⟩ | ⟨slot, fails⟩
  · exact if_pos (not_not.mp fun some => full ((chooseSlot_isSome free).mp some))
  rw [if_neg ((chooseSlot_isSome free).mpr slot)]
  by_cases list : q.op = 3#8
  · simp [FirstFails, list] at fails
  rw [if_neg fun is => list (ofCode_list_iff.mp is)]
  simp only [list, false_or] at fails
  rcases fails with ⟨closed, rfl⟩ | ⟨opened, fails⟩
  · exact if_pos (not_of_ne_true closed)
  rw [if_neg (ne_true_of_true opened)]
  rcases fails with ⟨denied, rfl⟩ | ⟨admitted, fails⟩
  · exact if_pos (not_of_ne_true denied)
  rw [if_neg (ne_true_of_true admitted)]
  rcases fails with ⟨readOnly, rfl⟩ | ⟨writable, fails⟩
  · obtain ⟨put, access⟩ := not_or.mp readOnly
    exact if_pos ⟨ofCode_put_iff.mpr (not_not.mp put), access⟩
  rw [if_neg fun ⟨put, access⟩ => writable.elim (fun no => no (ofCode_put_iff.mp put)) access]
  rcases fails with ⟨outside, rfl⟩ | ⟨within, fails⟩
  · exact if_pos (Nat.lt_of_not_le outside)
  rw [if_neg (Nat.not_lt_of_le within)]
  obtain ⟨_, _, _, small, _⟩ := good
  rcases fails with ⟨conflict, rfl⟩ | ⟨_, never⟩
  · exact if_pos ((conflicts_iff small).mpr conflict)
  · exact never.elim

theorem requestRefusal_of_passes {p : StationNo}
    (free : ∀ k, emptied = some k → (s.context k).state = .free) (passes : AllPass (requestChecks s p q)) :
    requestRefusal p q emptied s = none := by
  simp only [requestChecks, allPass_cons] at passes
  obtain ⟨notWithdrawing, good, slot, opened, admitted, writable, within, apart, _⟩ := passes
  unfold requestRefusal Window.admits Window.size
  dsimp only
  rw [requestWindow_eq]
  rw [if_neg notWithdrawing, if_neg (ne_true_of_true (requestGood_iff.mpr good)),
    if_neg ((chooseSlot_isSome free).mpr slot)]
  by_cases list : q.op = 3#8
  · exact if_pos (ofCode_list_iff.mpr list)
  simp only [list, false_or] at opened admitted within apart
  obtain ⟨_, _, _, small, _⟩ := good
  rw [if_neg fun is => list (ofCode_list_iff.mp is),
    if_neg (ne_true_of_true opened),
    if_neg (ne_true_of_true admitted),
    if_neg fun ⟨put, access⟩ => writable.elim (fun no => no (ofCode_put_iff.mp put)) access,
    if_neg (Nat.not_lt_of_le within), if_neg fun conflict => (conflicts_iff small).mp conflict apart]

end

/-- Settles O25. -/
theorem requestRefused : Obligations.RequestRefused := by
  rintro s src dst xch q f rfl takes own mode
  have matched := supersede_matches src xch (s.heard (requestOf src dst xch q))
  refine ⟨_, _, matched, fun reason fails => exec_requestReceived takes own mode (a := .refuse reason) ?_⟩
  unfold takeRequest
  dsimp only
  rw [requestRefusal_of_fails (fun k is => matched.emptied_free is) fails]

end Sys2Proof.Machine

/-! PROOFS. A REQUEST accepted into a slot (R85, R87, R140, R145 to R149, R153). -/

namespace Sys2Proof.Machine

/-! ### Building DATA (R153) -/

theorem Context.withFrame_eq (x : Context) (bytes : List Byte) : x.withFrame bytes = { x with
    heldFrame := { payload := bytes, tgl := x.toggle }, built := true, attempts := 0,
    finalMark := decide (x.moved + bytes.length = x.amount ∧
      (bytes.length < 16 * 2 ^ x.sizeCode ∨ x.amount = x.total)) } := by
  rw [← isFinal_eq]
  rfl

/-- A context given a record builds its next DATA as R153 says. -/
theorem buildData_builds (k : SlotNo) (x : Context) (v : State) :
    BuildsData k x v (buildData k (v.setContext k x)) := by
  unfold BuildsData buildData
  dsimp only
  rw [State.setContext_context_same]
  by_cases list : x.op = .list
  · rw [if_pos list, if_pos list, State.setContext_setContext, Context.withFrame_eq]
    rfl
  · rw [if_neg list, if_neg list]
    by_cases empty : min (16 * 2 ^ x.sizeCode) (x.amount - x.moved) = 0
    · rw [if_pos empty, if_pos (by exact empty), State.setContext_setContext, Context.withFrame_eq]
    · rw [if_neg empty, if_neg (by exact empty), State.setContext_setContext]
      rfl

/-! ### The accepted record (R149) -/

section
variable {v : State} {p : StationNo} {xch : ChannelNo} {q : RequestBody}

theorem openRecords_eq (v : State) (p : StationNo) : openRecords v p = directory v p := rfl

theorem op_cases (one : 1 ≤ q.op.toNat) (three : q.op.toNat ≤ 3) : q.op = 1#8 ∨ q.op = 2#8 ∨ q.op = 3#8 := by
  bv_omega

theorem total_zero_iff : q.total.toNat = 0 ↔ q.total = 0#16 := by bv_omega

theorem acceptedContext_eq (one : 1 ≤ q.op.toNat) (three : q.op.toNat ≤ 3) :
    acceptedContext p xch q v = acceptedRecord v p xch q := by
  unfold acceptedContext acceptedRecord
  dsimp only
  rw [openRecords_eq, requestWindow_eq]
  simp only [total_zero_iff]
  rcases op_cases one three with op | op | op <;> rw [op] <;> rfl

/-- Only a GET or LIST with bytes to send builds DATA (R149). -/
theorem acceptedRecord_sending_iff :
    (acceptedRecord v p xch q).state = .sending ↔ q.op ≠ 1#8 ∧ q.total ≠ 0#16 := by
  unfold acceptedRecord
  dsimp only
  split
  · rename_i empty
    exact ⟨nofun, fun ⟨_, notEmpty⟩ => absurd empty notEmpty⟩
  · rename_i notEmpty
    split
    · rename_i put
      exact ⟨nofun, fun ⟨notPut, _⟩ => absurd put notPut⟩
    · rename_i notPut
      exact ⟨fun _ => ⟨notPut, notEmpty⟩, fun _ => rfl⟩

end

/-! ### The slot taken (R147) -/

/-- What is found in a rising list has nothing before it. -/
theorem find?_minimal {n : Nat} {places : List (Fin n)} (rising : places.Pairwise (· < ·)) {p : Fin n → Bool}
    {w : Fin n} (found : places.find? p = some w) {v : Fin n} (mem : v ∈ places) (below : v < w) : p v = false := by
  induction places with
  | nil => cases mem
  | cons x rest ih =>
    obtain ⟨first, rising⟩ := List.pairwise_cons.mp rising
    cases meets : p x with
    | true =>
      rw [List.find?_cons_of_pos meets] at found
      cases found
      rcases List.mem_cons.mp mem with rfl | later
      · exact absurd below (lt_irrefl _)
      · exact absurd below (lt_asymm (first v later))
    | false =>
      rw [List.find?_cons_of_neg (by rw [meets]; exact Bool.false_ne_true)] at found
      rcases List.mem_cons.mp mem with rfl | later
      · exact meets
      · exact ih rising found later

section
variable {u : State} {emptied : Option SlotNo} {k : SlotNo}

theorem reclaimSlot_of_free (free : (u.context k).state = .free) : reclaimSlot k u = u :=
  if_neg (by rw [free]; nofun)

theorem chooseSlot_taken (law : SlotLaw u) (free : ∀ k, emptied = some k → (u.context k).state = .free)
    (choose : chooseSlot emptied u = some k) : SlotTaken emptied k u (reclaimSlot k u) := by
  cases emptied with
  | some j =>
    cases choose
    exact .inl ⟨rfl, reclaimSlot_of_free (free k rfl)⟩
  | none =>
    unfold chooseSlot at choose
    dsimp only at choose
    split at choose
    · rename_i found
      cases choose
      have isFree : (u.context k).state = .free := by simpa using List.find?_some found
      refine .inr (.inl ⟨rfl, isFree, fun j below => ?_, reclaimSlot_of_free isFree⟩)
      simpa using find?_minimal (by decide) found (mem_allSlots j) below
    · rename_i found
      have lingering := (law.lingering k).mp (List.mem_of_mem_head? choose)
      refine .inr (.inr ⟨rfl, fun j isFree => ?_, choose, ?_⟩)
      · exact List.find?_eq_none.mp found j (mem_allSlots j) (by rw [isFree]; rfl)
      · rw [reclaimSlot, if_pos lingering]
        exact freeContext_freed u k

end

/-- Settles O26 (`requestAccepted` is the model's name for the channel's part). -/
theorem request_accepted : Obligations.RequestAccepted := by
  rintro s src dst xch q f rfl takes own online law
  generalize heard : s.heard (requestOf src dst xch q) = b
  have lawHeard : SlotLaw b := by
    rw [← heard]
    exact law.of_slots (by rw [heard_ctxs]) (by rw [heard_ctxs])
  have matched := supersede_matches src xch b
  have free := fun k is => matched.emptied_free (k := k) is
  have lawMatched := (supersede_laws b src xch).slot lawHeard
  refine ⟨_, _, matched, fun passes => ?_⟩
  have accepted := requestRefusal_of_passes free passes
  simp only [requestChecks, allPass_cons] at passes
  obtain ⟨_, ⟨one, three, _⟩, slot, _⟩ := passes
  obtain ⟨k, choose⟩ := Option.ne_none_iff_exists'.mp ((chooseSlot_isSome free).mpr slot)
  have taken : takeRequest src xch q b = (.accept, acceptRequest k src xch q (supersede src xch b)) := by
    unfold takeRequest
    dsimp only
    rw [accepted, choose]
  have record := acceptedContext_eq (v := reclaimSlot k (supersede src xch b)) (p := src) (xch := xch) one three
  refine ⟨k, _, _, chooseSlot_taken lawMatched free choose, ?_,
    exec_requestReceived takes own (.inl online) (heard ▸ taken)⟩
  rw [acceptRequest_eq, heard, record]
  by_cases still : q.op = 1#8 ∨ q.total = 0#16
  · exact .inl ⟨still, if_neg fun sends => (acceptedRecord_sending_iff.mp sends).elim fun notPut notEmpty =>
      still.elim notPut notEmpty⟩
  · obtain ⟨notPut, notEmpty⟩ := not_or.mp still
    refine .inr ⟨⟨notPut, notEmpty⟩, ?_⟩
    rw [if_pos (acceptedRecord_sending_iff.mpr ⟨notPut, notEmpty⟩)]
    exact buildData_builds k _ _

end Sys2Proof.Machine

/-! PROOFS. Frames with DIR 0 for a context (R38, R84, R144, R150, R152, R157 to R159, R162). -/

namespace Sys2Proof.Machine

/-! ### The slot that holds an identity -/

section
variable {s : State} {p : StationNo} {xch : ChannelNo} {k : SlotNo} {act : SlotNo → State → Answer × State}

/-- The one slot that holds an identity is found (R140). -/
theorem holder_of_holds (law : SlotLaw s) (holds : HoldsExchange s k p xch) : holder s p xch = some k := by
  obtain ⟨held, initiator, same⟩ := holds
  cases found : holder s p xch with
  | none => exact absurd ⟨held, initiator, same⟩ (holder_eq_none.mp found k)
  | some j =>
    obtain ⟨jHeld, jInitiator, jSame⟩ := holder_eq_some found
    exact congrArg some (law.identity j k jHeld held (jInitiator.trans initiator.symm) (jSame.trans same.symm))

theorem byIdentity_withdrawing (mode : s.station.mode = .withdrawing) :
    byIdentity p xch act s = (.refuse reasonWithdrawing, s) := if_pos mode

theorem byIdentity_none (online : s.station.mode = .online) (unheld : ∀ k, ¬HoldsExchange s k p xch) :
    byIdentity p xch act s = (.refuse reasonNoExchange, s) := by
  rw [byIdentity, if_neg (by rw [online]; nofun), holder_eq_none.mpr unheld]

theorem byIdentity_holds (online : s.station.mode = .online) (law : SlotLaw s) (holds : HoldsExchange s k p xch) :
    byIdentity p xch act s = act k s := by
  rw [byIdentity, if_neg (by rw [online]; nofun), holder_of_holds law holds]

end

/-! ### What a context does with its frame -/

/-- What a DATA with DIR 0, a CLOSE or an ABORT does at the slot that holds its identity (R38). -/
def contextAct (f : Frame) (k : SlotNo) (s : State) : Answer × State :=
  match f.kind with
  | .data => dataToContext k f.tgl f.payload s
  | .close => closeToContext k s
  | _ => abortToContext k s

section
variable {s : State} {f : Frame} {i : Instr} {k : SlotNo} {r : Result}

theorem ownerOf_toContext (kind : (f.kind = .data ∧ f.dir = false) ∨ f.kind = .close ∨ f.kind = .abort) :
    ownerOf f (s.afterFrame f) = deliver f (byIdentity f.src f.xch (contextAct f)) (s.heard f) := by
  have act {g : SlotNo → State → Answer × State} (same : contextAct f = g) :
      deliver f (byIdentity f.src f.xch g) (s.heard f) =
        deliver f (byIdentity f.src f.xch (contextAct f)) (s.heard f) := by rw [same]
  unfold ownerOf
  rcases kind with ⟨kind, dir⟩ | kind | kind <;> rw [kind] <;> dsimp only
  · rw [dataOwner, if_neg (by rw [dir]; exact Bool.false_ne_true), refreshPeer_afterFrame]
    exact act (by funext k t; simp only [contextAct, kind])
  · rw [closeOwner, refreshPeer_afterFrame]
    exact act (by funext k t; simp only [contextAct, kind])
  · rw [abortOwner, refreshPeer_afterFrame]
    exact act (by funext k t; simp only [contextAct, kind])

/-- The answer to a frame with DIR 0 for this station (R26, R38). -/
theorem exec_toContext (row : receivedFrame s.station.number i = some f) (takes : Takes s f.src)
    (valid : f.valid = true) (own : f.dst = s.station.number)
    (kind : (f.kind = .data ∧ f.dir = false) ∨ f.kind = .close ∨ f.kind = .abort)
    (mode : s.station.mode = .online ∨ s.station.mode = .withdrawing) {a : Answer} {t : State}
    (answers : byIdentity f.src f.xch (contextAct f) (s.heard f) = (a, t)) :
    exec i s = .next (t.setAnswer (some (answerTo s f a.kind a.tgl a.payload))) := by
  rw [exec_delivered row takes valid (ownerOf_toContext kind) own mode, answers]
  rfl

theorem contextAct_lingering (lingering : (s.context k).state = .lingering) :
    contextAct f k s = (storedAnswer s k, s) := by
  unfold contextAct
  split
  · exact if_pos lingering
  · simp only [closeToContext, lingering]
  · simp only [abortToContext, lingering]

theorem endAndReport_eq (k : SlotNo) (r : Result) (s : State) :
    endAndReport k r s = (.report (reportOf (endContext k r s) (s.context k) r), endContext k r s) := by
  unfold endAndReport storedAnswer
  rw [(endContext_ends s k r).record]
  rfl

theorem dataToContext_bad {tgl : Bool} {payload : List Byte} (going : (s.context k).state ≠ .lingering)
    (bad : (s.context k).op ≠ .put ∨ (tgl = (s.context k).toggle ∧ ((s.context k).state = .drained ∨
      ((s.context k).state = .receiving ∧
        payload.length ≠ min (16 * 2 ^ (s.context k).sizeCode) ((s.context k).total - (s.context k).moved))))) :
    dataToContext k tgl payload s = endAndReport k .badData s := by
  unfold dataToContext
  dsimp only
  rw [if_neg going]
  by_cases put : (s.context k).op = .put
  · obtain ⟨toggle, out⟩ := bad.resolve_left (not_not.mpr put)
    rw [if_neg (not_not.mpr put), if_neg (not_not.mpr toggle), if_neg ?_]
    rintro ⟨receiving, length⟩
    rcases out with drained | ⟨_, short⟩
    · rw [drained] at receiving
      cases receiving
    · exact short length
  · exact if_pos put

theorem contextAct_ends (going : (s.context k).state ≠ .lingering)
    (ends : (f.kind = .data ∧ r = .badData ∧ ((s.context k).op ≠ .put ∨ (f.tgl = (s.context k).toggle ∧
          ((s.context k).state = .drained ∨ ((s.context k).state = .receiving ∧
            f.payload.length ≠ min (16 * 2 ^ (s.context k).sizeCode) ((s.context k).total - (s.context k).moved)))))) ∨
      (f.kind = .close ∧ r = .ok ∧ (s.context k).state = .drained) ∨
      (f.kind = .close ∧ r = .closedEarly ∧ ((s.context k).state = .receiving ∨ (s.context k).state = .sending)) ∨
      (f.kind = .abort ∧ r = .aborted)) : contextAct f k s = endAndReport k r s := by
  unfold contextAct
  rcases ends with ⟨kind, rfl, bad⟩ | ⟨kind, rfl, drained⟩ | ⟨kind, rfl, receiving | sending⟩ | ⟨kind, rfl⟩ <;>
    rw [kind] <;> dsimp only
  · exact dataToContext_bad going bad
  · simp only [closeToContext, drained]
  · simp only [closeToContext, receiving]
  · simp only [closeToContext, sending]
  · unfold abortToContext
    split
    · exact absurd ‹_› going
    · rfl

end

/-- Settles O28. -/
theorem contextFrames : Obligations.ContextFrames := by
  intro s i f row valid takes own kind
  refine ⟨fun withdrawing => ?_, fun online unheld => ?_, fun online law k x holds is => ?_⟩
  · exact exec_toContext row takes valid own kind (.inr withdrawing)
      (byIdentity_withdrawing (by rw [heard_station]; exact withdrawing))
  · refine exec_toContext row takes valid own kind (.inl online)
      (byIdentity_none (by rw [heard_station]; exact online) fun k => ?_)
    rw [HoldsExchange, heard_context]
    exact unheld k
  · subst is
    have answers : byIdentity f.src f.xch (contextAct f) (s.heard f) = contextAct f k (s.heard f) :=
      byIdentity_holds (by rw [heard_station]; exact online)
        (law.of_slots (by rw [heard_ctxs]) (by rw [heard_ctxs])) (by rw [HoldsExchange, heard_context]; exact holds)
    refine ⟨fun rep lingering stored => ?_, fun r going ends => ?_⟩
    · have again : storedAnswer (s.heard f) k = .report rep.payload := by
        rw [storedAnswer, heard_context, stored]
        rfl
      exact exec_toContext row takes valid own kind (.inl online)
        (answers.trans ((contextAct_lingering (by rw [heard_context]; exact lingering)).trans
          (congrArg (·, s.heard f) again)))
    · refine ⟨_, endContext_ends _ k r, ?_⟩
      have ended := contextAct_ends (s := s.heard f) (k := k) (f := f) (r := r) (by rwa [heard_context])
        (by rwa [heard_context])
      rw [endAndReport_eq, heard_context] at ended
      exact exec_toContext row takes valid own kind (.inl online) (answers.trans ended)

end Sys2Proof.Machine

/-! PROOFS. The arrival of an answer at the ask of its source, and what the answers to a REQUEST do (R16 to R18, R39,
R103, R105, R106, R108, R115, R118). -/

namespace Sys2Proof.Machine

/-! ### The arrival -/

section
variable {s : State} {src : Source} {i : Instr} {f : Frame} {ans : Answer} {c : ChannelNo} {k : SlotNo}

theorem AnswersAsk.kind (answers : AnswersAsk s src i f ans) : f.kind.answer = true := by
  rw [answers.frame]
  cases ans <;> rfl

theorem AnswersAsk.matches (answers : AnswersAsk s src i f ans) : s.matchesAsk f = true := by
  obtain ⟨a, asks, _, asking, from', same⟩ := answers.asked
  simp only [State.matchesAsk, asks, Ask.isMatch, asking, answers.kind, answers.own, from', same, beq_self_eq_true,
    Bool.and_self]

theorem FrameKind.not_addressedAsk {k : FrameKind} (kind : k.answer = true) : k.addressedAsk = false := by
  revert kind
  cases k <;> decide

/-- The state as the ask in flight takes its answer: its sender refreshed, the ask still recorded (R13, R39, R62). -/
def answerTaken (s : State) (f : Frame) : State := refreshPeer f.src ((s.afterFrame f).setAsk s.lau.ask)

theorem answerTaken_ask (s : State) (f : Frame) : (answerTaken s f).lau.ask = s.lau.ask := by
  rw [answerTaken, (refreshPeer_ownerKeeps _ f.src).lau]
  unfold refreshPeer
  dsimp only
  split <;> rfl

theorem answerTaken_setAsk (s : State) (f : Frame) : (answerTaken s f).setAsk none = s.heard f := by
  unfold answerTaken refreshPeer State.heard
  dsimp only
  have read : ((s.afterFrame f).setAsk s.lau.ask).peer f.src = s.peer f.src := rfl
  rw [read]
  split <;> rfl

/-- A matching answer is the outcome of the ask that is in flight (R17, R39). -/
theorem exec_answersAsk (answers : AnswersAsk s src i f ans) :
    exec i s = .next (resolveAsk (.taken ans) (answerTaken s f)) := by
  have row : exec i s = .next (arrive f (answerOwner f ans) s) := by
    rw [answers.row, answers.frame]
    rfl
  have line : lauTakesFrame f ((s.setLineActive false).setRx f.bytes) = (s.afterFrame f).setAsk s.lau.ask := by
    unfold lauTakesFrame
    exact congrArg (fun t => ((State.setL t (frameL f) false).setPhase (framePhase f)).setAnswer none)
      (if_pos answers.matches)
  have matched : ((s.afterFrame f).setAsk s.lau.ask).matchesAsk f = true := answers.matches
  have station : (resolveAsk (.taken ans) (answerTaken s f)).station = s.station := by
    rw [resolveAsk_stationBlock, answerTaken, (refreshPeer_ownerKeeps _ f.src).station]
    rfl
  rw [row, arrive_heard answers.hears answers.valid, if_neg answers.other, line, answerOwner, if_pos matched]
  refine congrArg Host.Outcome.next (checkListening_of_not_waitsForL ?_)
  have known := answers.known
  unfold WaitsForL at known ⊢
  rwa [show (resolveAsk (.taken ans) (refreshPeer f.src ((s.afterFrame f).setAsk s.lau.ask))).station = s.station
    from station]

theorem exec_answersChannel (answers : AnswersAsk s (.channel c) i f ans) :
    exec i s = .next (channelOutcome c (.taken ans) (s.heard f)) := by
  obtain ⟨a, asks, source, _⟩ := answers.asked
  rw [exec_answersAsk answers, resolveAsk_channel _ ((answerTaken_ask s f).trans asks) source, answerTaken_setAsk]

theorem exec_answersContext (answers : AnswersAsk s (.context k) i f ans) :
    exec i s = .next (contextOutcome k (.taken ans) (s.heard f)) := by
  obtain ⟨a, asks, source, _⟩ := answers.asked
  rw [exec_answersAsk answers, resolveAsk_context _ ((answerTaken_ask s f).trans asks) source, answerTaken_setAsk]

@[simp] theorem heard_attemptLimit (s : State) (f : Frame) : (s.heard f).attemptLimit = s.attemptLimit := by
  rw [State.attemptLimit, heard_station]
  rfl

@[simp] theorem heard_idleLength (s : State) (f : Frame) : (s.heard f).idleLength = s.idleLength := by
  rw [State.idleLength, heard_station]
  rfl

@[simp] theorem heard_presenceLength (s : State) (f : Frame) : (s.heard f).presenceLength = s.presenceLength := by
  rw [State.presenceLength, heard_station]
  rfl

end

/-! ### The outcome at a channel with nothing pending -/

section
variable {s b t : State} {c : ChannelNo} {ch : Channel} {i : Instr} {f : Frame} {ans : Answer} {cond : Condition}
  {detail : Byte}

theorem applyPending_of_record {ch' : Channel} (record : t.channel c = ch') (noEnd : ch'.endPending = none)
    (noHold : ch'.holdPending = false) : applyPending c t = t :=
  applyPending_none (by rwa [record]) (by rwa [record])

theorem applyPending_endChannel (s : State) (c : ChannelNo) (cond : Condition) (detail : Byte) :
    applyPending c (endChannel c cond detail s) = endChannel c cond detail s :=
  applyPending_ended (endChannel_ended ..)

/-- The outcome that an answer has at its channel (R103, R104). -/
theorem exec_takesOutcome (answers : AnswersAsk s (.channel c) i f ans) (takes : TakesOutcome s c ch) :
    exec i s = .next (applyPending c (channelTaken c ans ((s.heard f).setChannel c ch))) := by
  obtain ⟨is, _⟩ := takes
  rw [exec_answersChannel answers, is]
  show _ = Host.Outcome.next (applyPending c (channelTaken c ans
    ((s.heard f).setChannel c { s.channel c with askInFlight := false })))
  rw [← heard_channel s f c]
  rfl

/-- An answer after which the channel has ended. -/
theorem exec_ends (answers : AnswersAsk s (.channel c) i f ans) (takes : TakesOutcome s c ch)
    (ends : channelTaken c ans ((s.heard f).setChannel c ch) = endChannel c cond detail b) :
    ∃ t, exec i s = .next t ∧ ChannelEnds c cond detail b t := by
  refine ⟨_, ?_, endChannel_ends b c cond detail⟩
  rw [exec_takesOutcome answers takes, ends, applyPending_endChannel]

/-- An answer that leaves a record with nothing pending. -/
theorem exec_leaves (answers : AnswersAsk s (.channel c) i f ans) (takes : TakesOutcome s c ch)
    (leaves : channelTaken c ans ((s.heard f).setChannel c ch) = t)
    (noEnd : (t.channel c).endPending = ch.endPending) (noHold : (t.channel c).holdPending = ch.holdPending) :
    exec i s = .next t := by
  have outcome := exec_takesOutcome answers takes
  obtain ⟨_, none, noHoldPending⟩ := takes
  rw [outcome, leaves, applyPending_none (noEnd.trans none) (noHold.trans noHoldPending)]

/-- An answer that counts as no answer (R103). -/
theorem exec_counts (answers : AnswersAsk s (.channel c) i f ans) (takes : TakesOutcome s c ch)
    (counts : channelTaken c ans ((s.heard f).setChannel c ch) = channelNoAnswer c ((s.heard f).setChannel c ch))
    (asked : ch.state.phase ≠ none ∨ ch.state = .aborting) :
    ∃ t, exec i s = .next t ∧ CountsAttempt c ch (exhaustedCondition ch) (s.heard f) t := by
  have counted : setAttempts c (ch.attempts + 1) ((s.heard f).setChannel c ch) =
      (s.heard f).setChannel c { ch with attempts := ch.attempts + 1 } := setAttempts_setChannel _ c _ _
  rw [channelNoAnswer, State.setChannel_channel_same, counted] at counts
  by_cases below : ch.attempts + 1 < (s.heard f).attemptLimit
  · refine ⟨_, exec_leaves answers takes (counts.trans (if_pos below)) ?_ ?_, .inl ⟨below, rfl⟩⟩
    · rw [State.setChannel_channel_same]
    · rw [State.setChannel_channel_same]
  · have ended : endExhausted c ((s.heard f).setChannel c { ch with attempts := ch.attempts + 1 }) =
        endChannel c (exhaustedCondition ch) 0 ((s.heard f).setChannel c { ch with attempts := ch.attempts + 1 }) := by
      rw [endExhausted_eq (by rwa [State.setChannel_channel_same]), State.setChannel_channel_same]
      rfl
    obtain ⟨t, row, ends⟩ := exec_ends answers takes ((counts.trans (if_neg below)).trans ended)
    exact ⟨t, row, .inr ⟨Nat.le_of_not_lt below, ends⟩⟩

theorem exhaustedCondition_phase (notClose : ch.state ≠ .close) (notAborting : ch.state ≠ .aborting) :
    exhaustedCondition ch = .retryExhausted := by
  rw [exhaustedCondition, if_neg fun ⟨close, _⟩ => notClose close, if_neg notAborting]

end

/-! ### The answer to a REQUEST -/

section
variable {b : State} {c : ChannelNo} {ch : Channel}

theorem channelTaken_request (state : ch.state = .request) (a : Answer) (b : State) :
    channelTaken c a (b.setChannel c ch) = requestTaken c a (b.setChannel c ch) := by
  simp only [channelTaken, State.setChannel_channel_same, state]

theorem enterClose_setChannel (b : State) (c : ChannelNo) (ch : Channel) :
    enterClose c (b.setChannel c ch) =
      b.setChannel c { ch with state := .close, attempts := 0, dataWait := none, built := false } := by
  rw [enterClose, State.setChannel_channel_same, State.setChannel_setChannel]

/-- The claim for the next DATA sets the attempt count afresh (R108). -/
theorem claimFrame_setChannel_attempts (b : State) (c : ChannelNo) (ch : Channel) :
    claimFrame c (b.setChannel c { ch with attempts := 0 }) = claimFrame c (b.setChannel c ch) := by
  unfold claimFrame
  dsimp only
  rw [State.setChannel_channel_same, State.setChannel_channel_same, State.setChannel_setChannel,
    State.setChannel_setChannel]
  rfl

theorem requestAccepted_close (empty : ch.desc.total = 0) : requestAccepted c (b.setChannel c ch) =
    b.setChannel c { ch with state := .close, attempts := 0, dataWait := none, built := false } := by
  unfold requestAccepted
  dsimp only
  rw [State.setChannel_channel_same, if_pos empty, enterClose_setChannel]

theorem requestAccepted_put (bytes : ch.desc.total ≠ 0) (put : ch.desc.op = .put) :
    requestAccepted c (b.setChannel c ch) = claimFrame c (b.setChannel c { ch with state := .data }) := by
  unfold requestAccepted
  dsimp only
  rw [State.setChannel_channel_same, if_neg bytes, if_pos put, State.setChannel_setChannel]
  exact claimFrame_setChannel_attempts b c { ch with state := .data }

theorem requestAccepted_get (bytes : ch.desc.total ≠ 0) (get : ch.desc.op ≠ .put) :
    requestAccepted c (b.setChannel c ch) = b.setChannel c
      { ch with state := .data, attempts := 0, toggle := false, dataWait := some b.idleLength } := by
  unfold requestAccepted
  dsimp only
  rw [State.setChannel_channel_same, if_neg bytes, if_neg get, State.setChannel_setChannel]
  rfl

theorem requestTaken_deferred {r : Byte} (defers : r = 1#8 ∨ r = 2#8) : requestTaken c (.refuse r) (b.setChannel c ch) =
    if ch.attempts + 1 < b.attemptLimit then
      b.setChannel c { ch with attempts := ch.attempts + 1, pauseTimer := some b.presenceLength }
    else endChannel c .refused r (b.setChannel c { ch with attempts := ch.attempts + 1 }) := by
  refine (if_pos defers).trans ?_
  unfold requestDeferred
  dsimp only
  rw [State.setChannel_channel_same, setAttempts_setChannel, State.setChannel_channel_same,
    State.setChannel_setChannel]
  rfl

theorem requestTaken_refused {r : Byte} (other : r ≠ 1#8) (other' : r ≠ 2#8) :
    requestTaken c (.refuse r) (b.setChannel c ch) =
      endChannel c .refused r (b.setChannel c { ch with attempts := 0 }) := by
  refine (if_neg (not_or.mpr ⟨other, other'⟩)).trans ?_
  rw [setAttempts_setChannel]

end

/-- Settles O30. -/
theorem answerToRequest : Obligations.AnswerToRequest := by
  intro s c i f ans ch answers takes state
  have taken := channelTaken_request (c := c) state ans (s.heard f)
  have asked : ch.state.phase ≠ none ∨ ch.state = .aborting := .inl (by rw [state]; nofun)
  refine ⟨fun is => ?accept, fun r is defers => ?deferred, fun r is other other' => ?refused, fun p is => ?report,
    fun counts => ?counts⟩
  case accept =>
    subst is
    refine ⟨fun empty => ?_, fun bytes put => ?_, fun bytes get => ?_⟩
    · refine exec_leaves answers takes (taken.trans (requestAccepted_close empty)) ?_ ?_
      all_goals rw [State.setChannel_channel_same]
    · refine ⟨_, exec_leaves answers takes (taken.trans (requestAccepted_put bytes put)) ?_ ?_, claimFrame_claims _ c⟩
      all_goals rw [(claimFrame_claims _ c).record, State.setChannel_channel_same]
    · refine exec_leaves answers takes ((taken.trans (requestAccepted_get bytes get)).trans ?_) ?_ ?_
      · rw [heard_idleLength]
        rfl
      all_goals rw [State.setChannel_channel_same]
  case deferred =>
    subst is
    have deferred := taken.trans (requestTaken_deferred defers)
    rw [heard_attemptLimit, heard_presenceLength] at deferred
    refine ⟨fun below => ?_, fun limit =>
      exec_ends answers takes (deferred.trans (if_neg (Nat.not_lt_of_le limit)))⟩
    refine exec_leaves answers takes (deferred.trans (if_pos below)) ?_ ?_
    all_goals rw [State.setChannel_channel_same]
  case refused =>
    subst is
    exact exec_ends answers takes (taken.trans (requestTaken_refused other other'))
  case report =>
    subst is
    exact exec_ends answers takes (taken.trans
      (congrArg (endChannel c .badReport 0) (setAttempts_setChannel (s.heard f) c 0 ch)))
  case counts =>
    have condition : exhaustedCondition ch = .retryExhausted :=
      exhaustedCondition_phase (by rw [state]; nofun) (by rw [state]; nofun)
    rw [← condition]
    refine exec_counts answers takes (taken.trans ?_) asked
    rcases counts with ⟨tgl, rfl⟩ | rfl <;> rfl

end Sys2Proof.Machine

/-! PROOFS. The answers to the DATA of a PUT (R16 to R18, R39, R103, R108, R109, R118, R119). -/

namespace Sys2Proof.Machine

/-! ### Bytes confirmed (R109, R112, R119) -/

section
variable {b : State} {c : ChannelNo} {ch : Channel}

/-- One more DATA counted: the counter, and the bit of CHANNEL_PROGRESS where it reaches its interval (R119). -/
theorem countProgress_setChannel (b : State) (c : ChannelNo) (ch : Channel) :
    countProgress c (b.setChannel c ch) =
      (b.setChannel c { ch with progressCount := (progressOf ch).1 }).progressed c (progressOf ch).2 := by
  unfold countProgress progressOf
  dsimp only
  rw [State.setChannel_channel_same]
  split
  · rfl
  · split
    · rw [State.setChannel_setChannel]
      rfl
    · rw [State.setChannel_setChannel]
      rfl

theorem confirmBytes_setChannel (b : State) (c : ChannelNo) (ch : Channel) (n : Nat) :
    confirmBytes c n (b.setChannel c ch) =
      (b.setChannel c { ch with
        moved := ch.moved + n, remaining := ch.remaining - n, toggle := !ch.toggle,
        progressCount := (progressOf ch).1 }).progressed c (progressOf ch).2 := by
  unfold confirmBytes
  dsimp only
  rw [State.setChannel_channel_same, State.setChannel_setChannel, countProgress_setChannel]
  rfl

theorem setChannel_progressed (b : State) (c : ChannelNo) (x y : Channel) (reached : Bool) :
    ((b.setChannel c x).progressed c reached).setChannel c y = (b.setChannel c y).progressed c reached := by
  have apart : ((b.setChannel c x).progressed c reached).setChannel c y =
      ((b.setChannel c x).setChannel c y).progressed c reached := rfl
  rw [apart, State.setChannel_setChannel]

theorem progressed_channel (b : State) (c : ChannelNo) (x : Channel) (reached : Bool) :
    ((b.setChannel c x).progressed c reached).channel c = x := State.setChannel_channel_same b c x

/-- The record of a PUT channel whose DATA was acknowledged (R109). -/
def Channel.acknowledged (ch : Channel) : Channel :=
  { ch with
    moved := ch.moved + ch.heldFrame.payload.length, remaining := ch.remaining - ch.heldFrame.payload.length,
    toggle := !ch.toggle, attempts := 0, progressCount := (progressOf ch).1 }

theorem acknowledges (b : State) (c : ChannelNo) (ch : Channel) :
    setAttempts c 0 (confirmBytes c ch.heldFrame.payload.length (b.setChannel c ch)) =
      (b.setChannel c ch.acknowledged).progressed c (progressOf ch).2 := by
  rw [setAttempts, confirmBytes_setChannel, setChannel_progressed, progressed_channel]
  rfl

/-- The ACK of a PUT's DATA with nothing held: CLOSE after the last byte, else the next claim (R108, R109). -/
theorem putConfirmed_setChannel (noHold : ch.holdPending = false) : putConfirmed c (b.setChannel c ch) =
    if ch.acknowledged.remaining = 0 then
      (b.setChannel c { ch.acknowledged with state := .close, dataWait := none, built := false }).progressed c
        (progressOf ch).2
    else claimFrame c ((b.setChannel c ch.acknowledged).progressed c (progressOf ch).2) := by
  unfold putConfirmed
  dsimp only
  rw [State.setChannel_channel_same, acknowledges, progressed_channel, noHold]
  by_cases all : ch.acknowledged.remaining = 0
  · rw [if_pos all, if_pos all, enterClose, progressed_channel, setChannel_progressed]
    rfl
  · rw [if_neg all, if_neg all, if_neg Bool.false_ne_true]

theorem channelTaken_putData (state : ch.state = .data) (put : ch.desc.op = .put) (a : Answer) (b : State) :
    channelTaken c a (b.setChannel c ch) = putDataTaken c a (b.setChannel c ch) := by
  simp only [channelTaken, State.setChannel_channel_same, state]
  exact if_pos put

theorem putDataTaken_ack (b : State) (c : ChannelNo) (ch : Channel) (tgl : Bool) :
    putDataTaken c (.ack tgl) (b.setChannel c ch) =
      if tgl = ch.toggle then putConfirmed c (b.setChannel c ch) else channelNoAnswer c (b.setChannel c ch) := by
  rw [putDataTaken, State.setChannel_channel_same]

end

/-- Settles O31. -/
theorem answerToPutData : Obligations.AnswerToPutData := by
  intro s c i f ans ch answers takes state put
  have taken := channelTaken_putData (c := c) state put ans (s.heard f)
  have emptied := setAttempts_setChannel (s.heard f) c 0 ch
  refine ⟨fun ch' is is' => ?ack, fun counts => ?counts, fun p is => ?report, fun r is => ?refuse⟩
  case ack =>
    subst is
    have record : ch' = ch.acknowledged := is'
    obtain ⟨_, _, noHold⟩ := id takes
    have confirmed := (taken.trans (putDataTaken_ack _ c ch ch.toggle)).trans
      ((if_pos rfl).trans (putConfirmed_setChannel noHold))
    rw [record]
    refine ⟨fun all => exec_leaves answers takes (confirmed.trans (if_pos all)) ?_ ?_,
      fun more => ⟨_, exec_leaves answers takes (confirmed.trans (if_neg more)) ?_ ?_, claimFrame_claims _ c⟩⟩
    · rw [progressed_channel]
      rfl
    · rw [progressed_channel]
      rfl
    all_goals
      rw [(claimFrame_claims _ c).record, progressed_channel]
      rfl
  case counts =>
    have condition : exhaustedCondition ch = .retryExhausted :=
      exhaustedCondition_phase (by rw [state]; nofun) (by rw [state]; nofun)
    rw [← condition]
    refine exec_counts answers takes (taken.trans ?_) (.inl (by rw [state]; nofun))
    rcases counts with rfl | rfl | rfl
    · exact (putDataTaken_ack _ c ch _).trans (if_neg (Bool.not_ne_self _))
    · rfl
    · rfl
  case report =>
    subst is
    refine ⟨fun six bad => exec_ends answers takes (taken.trans ((if_pos ⟨six, bad⟩).trans (by rw [emptied]; rfl))),
      fun malformed => exec_ends answers takes (taken.trans ((if_neg ?_).trans (by rw [emptied])))⟩
    rintro ⟨six, bad⟩
    exact malformed.elim (· six) bad
  case refuse =>
    subst is
    exact exec_ends answers takes (taken.trans (congrArg (endChannel c .refused r) emptied))

end Sys2Proof.Machine

/-! PROOFS. The answers to a CLOSE, to an ABORT and to a context's DATA (R16 to R18, R39, R99, R100, R103, R116 to R118,
R133, R153 to R156, R162). -/

namespace Sys2Proof.Machine

/-! ### The chain of a channel that ends DONE (R99, R100) -/

section
variable {b u : State} {c n : ChannelNo} {ch : Channel}

theorem chainTrigger_chains (n : ChannelNo) (u : State) : Chains (some n) u (chainTrigger n u) := by
  unfold Chains chainTrigger
  dsimp only
  split
  · by_cases present : (u.peer (u.channel n).desc.peer).state = .present
    · rw [if_pos present, if_pos (State.present_iff.mpr present)]
      rfl
    · rw [if_neg present, if_neg fun is => present (State.present_iff.mp is)]
      exact endChannel_ends ..
  · rfl

theorem endDone_chains (c : ChannelNo) (b : State) :
    Chains (b.channel c).desc.next (endChannel c .noError 0 b) (endDone c b) := by
  unfold endDone
  dsimp only
  cases (b.channel c).desc.next with
  | none => rfl
  | some n => exact chainTrigger_chains n _

/-- A chain trigger leaves a channel that has ended as it is (R100). -/
theorem chainTrigger_keeps_ended (ended : (u.channel c).state.ended = true) :
    ((chainTrigger n u).channel c).state.ended = true := by
  unfold chainTrigger
  by_cases same : c = n
  · subst same
    rw [if_neg fun ⟨armed, _⟩ => by rw [armed] at ended; exact absurd ended Bool.false_ne_true]
    exact ended
  · split
    · split
      · rw [startChannel_starts, State.starts]
        exact (congrArg (fun ch : Channel => ch.state.ended) (State.setChannel_channel_other u n c _ same)).trans ended
      · rw [(endChannel_ends ..).others c same]
        exact ended
    · exact ended

theorem endDone_ended (c : ChannelNo) (b : State) : ((endDone c b).channel c).state.ended = true := by
  unfold endDone
  dsimp only
  split
  · exact endChannel_ended ..
  · exact chainTrigger_keeps_ended (endChannel_ended ..)

/-! ### The answer to a CLOSE -/

theorem channelTaken_close (state : ch.state = .close) (a : Answer) (b : State) :
    channelTaken c a (b.setChannel c ch) = closeTaken c a (b.setChannel c ch) := by
  simp only [channelTaken, State.setChannel_channel_same, state]

theorem channelTaken_aborting (state : ch.state = .aborting) (a : Answer) (b : State) :
    channelTaken c a (b.setChannel c ch) = abortTaken c a (b.setChannel c ch) := by
  simp only [channelTaken, State.setChannel_channel_same, state]

theorem closeTaken_report (b : State) (c : ChannelNo) (ch : Channel) (p : List Byte) :
    closeTaken c (.report p) (b.setChannel c ch) = closeReported c p (b.setChannel c { ch with attempts := 0 }) :=
  congrArg (closeReported c p) (setAttempts_setChannel b c 0 ch)

theorem closeTaken_refuse (b : State) (c : ChannelNo) (ch : Channel) (r : Byte) :
    closeTaken c (.refuse r) (b.setChannel c ch) =
      if ch.timeoutMark then endChannel c .dataTimeout 0 (b.setChannel c { ch with attempts := 0 })
      else if r = 9#8 then endChannel c .unconfirmed 0 (b.setChannel c { ch with attempts := 0 })
      else endChannel c .refused r (b.setChannel c { ch with attempts := 0 }) := by
  unfold closeTaken
  dsimp only
  rw [State.setChannel_channel_same, setAttempts_setChannel]
  rfl

/-- The checks of a REPORT to CLOSE, as Safety lists them (R116). -/
def reportChecks (ch : Channel) (p : List Byte) : List (Prop × (Condition × Byte)) :=
  [(p.length = 6, (.badReport, 0#8)), (p.getD 0 0#8 = 0#8, (.remoteEnded, p.getD 0 0#8)),
   ((word (p.getD 2 0#8) (p.getD 3 0#8)).toNat = (if ch.desc.op = .put then ch.desc.total else ch.moved),
     (.badReport, 0#8)),
   (ch.remaining = 0 ∨ ch.desc.shortOk = true, (.underrun, 0#8))]

theorem shortEnd_iff : ¬(ch.remaining ≠ 0 ∧ ch.desc.shortOk = false) ↔ ch.remaining = 0 ∨ ch.desc.shortOk = true := by
  rw [not_and_or, not_not, Bool.not_eq_false]

theorem closeReported_timeout {p : List Byte} (mark : (b.channel c).timeoutMark = true) :
    closeReported c p b = endChannel c .dataTimeout 0 b := if_pos mark

theorem closeReported_fails {p : List Byte} {cond : Condition} {detail : Byte}
    (noMark : (b.channel c).timeoutMark = false) (fails : FirstFails (reportChecks (b.channel c) p) (cond, detail)) :
    closeReported c p b = endChannel c cond detail b := by
  simp only [reportChecks, firstFails_cons, Prod.mk.injEq] at fails
  unfold closeReported reportResult reportCount
  dsimp only
  rw [if_neg (by rw [noMark]; exact Bool.false_ne_true)]
  rcases fails with ⟨length, rfl, rfl⟩ | ⟨six, fails⟩
  · exact if_pos length
  rw [if_neg (not_not.mpr six)]
  rcases fails with ⟨bad, rfl, rfl⟩ | ⟨ok, fails⟩
  · exact if_pos bad
  rw [if_neg (not_not.mpr ok)]
  rcases fails with ⟨other, rfl, rfl⟩ | ⟨count, fails⟩
  · exact if_pos other
  rw [if_neg (not_not.mpr count)]
  rcases fails with ⟨short, rfl, rfl⟩ | ⟨_, never⟩
  · exact if_pos (not_not.mp fun no => short (shortEnd_iff.mp no))
  · exact never.elim

theorem closeReported_passes {p : List Byte} (noMark : (b.channel c).timeoutMark = false)
    (passes : AllPass (reportChecks (b.channel c) p)) : closeReported c p b = endDone c b := by
  simp only [reportChecks, allPass_cons] at passes
  obtain ⟨six, ok, count, whole, _⟩ := passes
  unfold closeReported reportResult reportCount
  dsimp only
  rw [if_neg (by rw [noMark]; exact Bool.false_ne_true), if_neg (not_not.mpr six), if_neg (not_not.mpr ok),
    if_neg (not_not.mpr count), if_neg (shortEnd_iff.mpr whole)]

end

/-- Settles O32. -/
theorem answerToCloseAndAbort : Obligations.AnswerToCloseAndAbort := by
  rintro s c i f ans ch b answers takes rfl
  have record : ((s.heard f).setChannel c { ch with attempts := 0 }).channel c = { ch with attempts := 0 } :=
    State.setChannel_channel_same ..
  refine ⟨fun state => ?close, fun state reason => ?abort⟩
  case close =>
    have taken := channelTaken_close (c := c) state ans (s.heard f)
    refine ⟨fun mark final => ?_, fun p noMark is => ⟨fun cond detail fails => ?_, fun six ok count whole => ?_⟩,
      fun noMark is => ?_, fun r noMark is other => ?_, fun counts => ?_⟩
    · rcases final with ⟨p, rfl⟩ | ⟨r, rfl⟩
      · exact exec_ends answers takes ((taken.trans (closeTaken_report _ c ch p)).trans
          (closeReported_timeout (by rw [record]; exact mark)))
      · exact exec_ends answers takes ((taken.trans (closeTaken_refuse _ c ch r)).trans (if_pos mark))
    · subst is
      exact exec_ends answers takes ((taken.trans (closeTaken_report _ c ch p)).trans
        (closeReported_fails (by rw [record]; exact noMark) (by rw [record]; exact fails)))
    · subst is
      have passes : AllPass (reportChecks ch p) := by
        simp only [reportChecks, allPass_cons]
        exact ⟨six, ok, count, whole, allPass_nil⟩
      have done := (taken.trans (closeTaken_report _ c ch p)).trans
        (closeReported_passes (by rw [record]; exact noMark) (by rw [record]; exact passes))
      refine ⟨_, _, ?_, endChannel_ends _ c .noError 0, record ▸ endDone_chains c _⟩
      rw [exec_takesOutcome answers takes, done, applyPending_ended (endDone_ended ..)]
    · subst is
      exact exec_ends answers takes ((taken.trans (closeTaken_refuse _ c ch 9#8)).trans
        ((if_neg (by rw [noMark]; exact Bool.false_ne_true)).trans (if_pos rfl)))
    · subst is
      exact exec_ends answers takes ((taken.trans (closeTaken_refuse _ c ch r)).trans
        ((if_neg (by rw [noMark]; exact Bool.false_ne_true)).trans (if_neg other)))
    · have condition : exhaustedCondition ch = if ch.timeoutMark then .dataTimeout else .retryExhausted := by
        rw [exhaustedCondition, state]
        cases ch.timeoutMark <;> rfl
      rw [← condition]
      refine exec_counts answers takes (taken.trans ?_) (.inl (by rw [state]; nofun))
      rcases counts with rfl | ⟨tgl, rfl⟩ | rfl <;> rfl
  case abort =>
    have taken := channelTaken_aborting (c := c) state ans (s.heard f)
    refine ⟨fun final => ?_, fun counts => ?_⟩
    · refine exec_ends answers takes (taken.trans ?_)
      have ends (b : State) : endChannel c ((b.setChannel c ch).channel c).abortReason.condition 0
          (setAttempts c 0 (b.setChannel c ch)) =
            endChannel c ch.abortReason.condition 0 (b.setChannel c { ch with attempts := 0 }) := by
        rw [State.setChannel_channel_same, setAttempts_setChannel]
      rcases final with ⟨p, rfl⟩ | ⟨r, rfl⟩
      · exact ends _
      · exact ends _
    · have condition : exhaustedCondition ch = ch.abortReason.condition := by
        rw [exhaustedCondition, state]
        rfl
      rw [← condition]
      refine exec_counts answers takes (taken.trans ?_) (.inr state)
      rcases counts with rfl | ⟨tgl, rfl⟩ | rfl <;> rfl

/-! ### The answer to a context's DATA -/

section
variable {b : State} {k : SlotNo} {x : Context}

theorem contextOutcome_taken (asked : (b.context k).askInFlight = true) (is : x = { b.context k with askInFlight := false })
    (a : Answer) : contextOutcome k (.taken a) b = contextTaken k a (b.setContext k x) := by
  subst is
  exact if_pos asked

theorem contextNoAnswer_setContext (b : State) (k : SlotNo) (x : Context) : contextNoAnswer k (b.setContext k x) =
    if x.attempts + 1 < b.attemptLimit then b.setContext k { x with attempts := x.attempts + 1 }
    else endContext k .retryExhausted (b.setContext k { x with attempts := x.attempts + 1 }) := by
  unfold contextNoAnswer
  dsimp only
  rw [State.setContext_context_same, State.setContext_setContext]
  rfl

theorem contextConfirmed_setContext (b : State) (k : SlotNo) (x : Context) : contextConfirmed k (b.setContext k x) =
    if x.finalMark then b.setContext k { x with
      moved := x.moved + x.heldFrame.payload.length, toggle := !x.toggle, attempts := 0, idleTimer := some b.idleLength,
      state := .drained, built := false }
    else buildData k (b.setContext k { x with
      moved := x.moved + x.heldFrame.payload.length, toggle := !x.toggle, attempts := 0,
      idleTimer := some b.idleLength }) := by
  unfold contextConfirmed
  dsimp only
  rw [State.setContext_context_same, State.setContext_setContext, State.setContext_setContext]
  rfl

theorem contextTaken_ack (b : State) (k : SlotNo) (x : Context) (tgl : Bool) :
    contextTaken k (.ack tgl) (b.setContext k x) =
      if tgl = x.heldFrame.tgl then contextConfirmed k (b.setContext k x)
      else contextNoAnswer k (b.setContext k x) := by
  rw [contextTaken, State.setContext_context_same]

theorem contextTaken_wait (b : State) (k : SlotNo) (x : Context) : contextTaken k .wait (b.setContext k x) =
    b.setContext k { x with
      attempts := 0, idleTimer := some b.idleLength, pauseTimer := some b.presenceLength } := by
  unfold contextTaken contextWaits
  dsimp only
  rw [State.setContext_context_same, State.setContext_setContext]
  rfl

theorem contextTaken_refuse (b : State) (k : SlotNo) (x : Context) (r : Byte) :
    contextTaken k (.refuse r) (b.setContext k x) =
      endContext k .initiatorGone (b.setContext k { x with attempts := 0 }) := by
  unfold contextTaken
  dsimp only
  rw [State.setContext_context_same, State.setContext_setContext]

end

/-- Settles O33. -/
theorem answerToContext : Obligations.AnswerToContext := by
  intro s k i f ans x answers is
  have row := exec_answersContext answers
  refine ⟨fun idle => ?_, fun asked => ?_⟩
  · rw [row, contextOutcome_discards _ (by rw [heard_context]; exact idle)]
  have taken : exec i s = .next (contextTaken k ans ((s.heard f).setContext k x)) := by
    rw [row, contextOutcome_taken (x := x) (by rw [heard_context]; exact asked) (by rw [heard_context]; exact is)]
  have idle : (s.heard f).idleLength = 100 * s.station.conf.idleLimit := heard_idleLength s f
  have presence : (s.heard f).presenceLength = 10 * s.station.conf.presenceInterval := heard_presenceLength s f
  have limit : (s.heard f).attemptLimit = 1 + s.station.conf.retryLimit := heard_attemptLimit s f
  refine ⟨fun x' is' next => ⟨fun final => ?_, fun more => ?_⟩, fun is' => ?_, fun r is' => ?_, fun counts => ?_⟩
  · rw [taken, is', contextTaken_ack, if_pos rfl, contextConfirmed_setContext, if_pos final, idle, next]
  · refine ⟨_, ?_, buildData_builds k x' _⟩
    rw [taken, is', contextTaken_ack, if_pos rfl, contextConfirmed_setContext,
      if_neg (by rw [more]; exact Bool.false_ne_true), idle, next]
  · rw [taken, is', contextTaken_wait, idle, presence]
  · refine ⟨_, ?_, endContext_ends ..⟩
    rw [taken, is', contextTaken_refuse]
  · have none : contextTaken k ans ((s.heard f).setContext k x) = contextNoAnswer k ((s.heard f).setContext k x) := by
      rcases counts with rfl | rfl | ⟨p, rfl⟩
      · rw [contextTaken_ack, if_neg (Bool.not_ne_self _)]
      · rfl
      · rfl
    rw [taken, none, contextNoAnswer_setContext, limit]
    exact ⟨fun below => congrArg Host.Outcome.next (if_pos below),
      fun reached => ⟨_, congrArg Host.Outcome.next (if_neg (Nat.not_lt_of_le reached)), endContext_ends ..⟩⟩

end Sys2Proof.Machine

/-! PROOFS. Timers that run out, and the end of the wait for L (R48, R51, R52, R67, R72, R106, R115, R139, R155, R160,
R161). -/

namespace Sys2Proof.Machine

/-! ### What does not read the listen timer -/

/-- The state with another listen timer. -/
def State.withListen (s : State) (t : Option Nat) : State := s.setStation { s.station with listenTimer := t }

/-- What reads nothing of the line side leaves it as it is, and does not read the listen timer. -/
theorem LineBlind.withListen {g : State → State} (blind : LineBlind g) (s : State) (t : Option Nat) :
    g (s.withListen t) = (g s).withListen t := by
  have kept : g s = (g s).withLine s.lineSide := blind s s.lineSide
  have moved : g (s.withListen t) = (g s).withLine { s.lineSide with listenTimer := t } :=
    blind s { s.lineSide with listenTimer := t }
  rw [moved]
  conv_rhs => rw [kept]
  rfl

theorem resolveAsk_withListen (o : AskOutcome) (s : State) (t : Option Nat) :
    resolveAsk o (s.withListen t) = (resolveAsk o s).withListen t := by
  have emptied : (s.withListen t).setAsk none = (s.setAsk none).withListen t := rfl
  cases asks : s.lau.ask with
  | none => rw [resolveAsk_none o (by exact asks), resolveAsk_none o asks]
  | some a =>
    have asks' : (s.withListen t).lau.ask = some a := asks
    cases source : a.source with
    | station => rw [resolveAsk_station o asks' source, resolveAsk_station o asks source, emptied]
    | channel c =>
      rw [resolveAsk_channel o asks' source, resolveAsk_channel o asks source, emptied,
        (channelOutcome_lineBlind c o).withListen]
    | context k =>
      rw [resolveAsk_context o asks' source, resolveAsk_context o asks source, emptied,
        (contextOutcome_lineBlind k o).withListen]

/-! ### The Peer Table -/

section
variable (p : StationNo)

theorem channelsPeerEvent_lineBlind (why : Condition) : LineBlind (channelsPeerEvent p why) :=
  .foldl (fun c => .ite (fun _ _ => .rfl) (interruptChannel_lineBlind c why) .id) _

theorem contextsPeerEvent_lineBlind : LineBlind (contextsPeerEvent p) :=
  .foldl (fun k => endWhere_lineBlind k _ _ _) _

theorem tellEngines_lineBlind (e : PeerEvent) : LineBlind (tellEngines p e) := fun s n => by
  unfold tellEngines
  rw [channelsPeerEvent_lineBlind, contextsPeerEvent_lineBlind]

theorem raisePeerChange_lineBlind : LineBlind raisePeerChange := fun _ _ => rfl

theorem refreshPeer_lineBlind : LineBlind (refreshPeer p) :=
  .ite (fun _ _ => .rfl) (fun _ _ => rfl) (fun _ _ => rfl)

theorem peerAnnounced_lineBlind (a : Announcement) : LineBlind (peerAnnounced p a) :=
  .ite (fun _ _ => .rfl) (fun _ _ => rfl) (fun _ _ => rfl)

theorem peerGone_lineBlind (e : PeerEvent) : LineBlind (peerGone p e) := fun s n => by
  have entry : (s.withLine n).setPeer p { (s.withLine n).peer p with state := .absent, expiry := none } =
      (s.setPeer p { s.peer p with state := .absent, expiry := none }).withLine n := rfl
  unfold peerGone
  rw [entry, tellEngines_lineBlind, raisePeerChange_lineBlind]

theorem peerLeaves_lineBlind : LineBlind (peerLeaves p) :=
  .ite (fun _ _ => .rfl) (peerGone_lineBlind p .left) .id

/-- The entry of a station as its JOIN leaves it (R64). -/
def joinedEntry (a : Announcement) (s : State) : State :=
  s.setPeer p { announcedPeer s (s.peer p) a with joinCount := min ((s.peer p).joinCount + 1) 255 }

theorem peerJoined_eq (a : Announcement) (s : State) : peerJoined p a s = raisePeerChange
    (if (s.peer p).state = .present then tellEngines p .restarted (joinedEntry p a s) else joinedEntry p a s) := rfl

theorem peerJoined_lineBlind (a : Announcement) : LineBlind (peerJoined p a) := by
  have entry : LineBlind (joinedEntry p a) := fun _ _ => rfl
  have told : LineBlind fun s => if (s.peer p).state = .present then tellEngines p .restarted (joinedEntry p a s)
      else joinedEntry p a s := .ite (fun _ _ => .rfl) (.comp (tellEngines_lineBlind p .restarted) entry) entry
  intro s n
  rw [peerJoined_eq, peerJoined_eq, ← raisePeerChange_lineBlind _ n]
  exact congrArg raisePeerChange (told s n)

end

/-! ### The arrival of a frame while the station listens -/

section
variable {s u v : State} {i : Instr} {f : Frame} {t : Option Nat}

theorem ownerOf_withListen (listening : s.station.mode = .listening) :
    ownerOf f (s.withListen t) = (ownerOf f s).withListen t := by
  have notOwn : ¬(f.dst = s.station.number ∧ (s.station.mode = .online ∨ s.station.mode = .withdrawing)) := by
    rw [listening]
    rintro ⟨_, h | h⟩ <;> cases h
  by_cases addressed : f.kind.addressedAsk = true
  · rw [ownerOf_elsewhere addressed (by exact notOwn), ownerOf_elsewhere addressed notOwn,
      (refreshPeer_lineBlind f.src).withListen]
  · have answer (a : Answer) : answerOwner f a (s.withListen t) = (answerOwner f a s).withListen t := by
      unfold answerOwner
      by_cases matched : s.matchesAsk f = true
      · rw [if_pos (by exact matched), if_pos matched, (refreshPeer_lineBlind f.src).withListen, resolveAsk_withListen]
      · rw [if_neg (by exact matched), if_neg matched, (refreshPeer_lineBlind f.src).withListen]
    unfold ownerOf
    split <;> rename_i kind
    · exact (peerJoined_lineBlind f.src _).withListen s t
    · exact (peerAnnounced_lineBlind f.src _).withListen s t
    · exact (peerLeaves_lineBlind f.src).withListen s t
    all_goals first
      | exact answer _
      | exact absurd (by rw [kind]; rfl) addressed

theorem lauTakesFrame_withListen (f : Frame) (s : State) (t : Option Nat) :
    lauTakesFrame f (s.withListen t) = (lauTakesFrame f s).withListen t := by
  unfold lauTakesFrame
  dsimp only
  by_cases matched : s.matchesAsk f = true
  · rw [if_pos (by exact matched), if_pos matched]
    rfl
  · rw [if_neg (by exact matched), if_neg matched, resolveAsk_withListen]
    rfl

/-! ### The end of the wait for L (R51) -/

/-- An event that makes L known ends the wait for it, and does else what it does while the timer runs. -/
theorem waitEnds (before : exec i (s.withListen (some 1)) = .next (checkListening (v.withListen (some 1))))
    (after : exec i s = .next (checkListening v)) (runs : exec i (s.withListen (some 1)) = .next u)
    (mode : u.station.mode = .listening) (timer : v.station.listenTimer = none) (known : v.lau.last ≠ none) :
    exec i s = .next ((u.setStation { u.station with
      mode := .joining, joinReady := true, listenTimer := none }).setPort
        { u.port with notices := { u.port.notices with stateChange := true } }) := by
  have still : checkListening (v.withListen (some 1)) = v.withListen (some 1) :=
    checkListening_of_not_waitsForL fun ⟨_, stopped⟩ => nomatch stopped
  rw [before, still] at runs
  cases runs
  rw [after]
  exact congrArg Host.Outcome.next (if_pos ⟨mode, timer, known⟩)

/-- The state as corrupted activity leaves it, before LISTENING is looked at (R7, R13, R36). -/
def corruptedTaken (bytes : List Byte) (s : State) : State :=
  (((resolveAsk .noAnswer ((s.setLineActive false).setRx bytes)).setL 31 true).setPhase .quiet).setAnswer none

theorem corruptedTaken_withListen (bytes : List Byte) (s : State) (t : Option Nat) :
    corruptedTaken bytes (s.withListen t) = (corruptedTaken bytes s).withListen t := by
  unfold corruptedTaken
  rw [show ((s.withListen t).setLineActive false).setRx bytes = ((s.setLineActive false).setRx bytes).withListen t
    from rfl, resolveAsk_withListen]
  rfl

theorem corruptedTaken_station (bytes : List Byte) (s : State) : (corruptedTaken bytes s).station = s.station :=
  resolveAsk_stationBlock ((s.setLineActive false).setRx bytes) .noAnswer

theorem endCorrupted_waitEnds {bytes : List Byte} (waits : WaitsForL s) (hears : Hears s)
    (row : ∀ t, exec i (s.withListen t) = .next (endCorrupted bytes (s.withListen t)))
    (runs : exec i (s.withListen (some 1)) = .next u) (mode : u.station.mode = .listening) :
    exec i s = .next ((u.setStation { u.station with
      mode := .joining, joinReady := true, listenTimer := none }).setPort
        { u.port with notices := { u.port.notices with stateChange := true } }) := by
  obtain ⟨_, timer⟩ := waits
  have same : s.withListen none = s := by
    rw [← timer]
    rfl
  have now := row none
  rw [same, endCorrupted_heard hears] at now
  have then' := row (some 1)
  rw [endCorrupted_heard (s := s.withListen (some 1)) hears] at then'
  refine waitEnds (v := corruptedTaken bytes s) (then'.trans ?_) now runs mode ?_ nofun
  · rw [← corruptedTaken_withListen]
    rfl
  · rw [corruptedTaken_station, timer]

theorem arrive_waitEnds (waits : WaitsForL s) (hears : Hears s)
    (row : ∀ t, exec i (s.withListen t) = .next (arrive f (ownerOf f) (s.withListen t)))
    (runs : exec i (s.withListen (some 1)) = .next u) (mode : u.station.mode = .listening) :
    exec i s = .next ((u.setStation { u.station with
      mode := .joining, joinReady := true, listenTimer := none }).setPort
        { u.port with notices := { u.port.notices with stateChange := true } }) := by
  by_cases valid : f.valid = true
  · obtain ⟨listening, timer⟩ := waits
    have same : s.withListen none = s := by
      rw [← timer]
      rfl
    have now := row none
    have then' := row (some 1)
    rw [same, arrive_heard hears valid] at now
    rw [arrive_heard (s := s.withListen (some 1)) hears valid] at then'
    by_cases own : f.src = s.station.number
    · have onLine : (s.withListen (some 1)).station.mode.onLine = true := by
        show s.station.mode.onLine = true
        rw [listening]
        rfl
      rw [if_pos (by exact own), reportClash, if_pos (by exact onLine), runs] at then'
      have clash := Host.Outcome.next.inj then'
      rw [clash, (enterClash_enters _).station] at mode
      exact absurd mode nofun
    · generalize heard : (s.setLineActive false).setRx f.bytes = b at now
      have heard' : ((s.withListen (some 1)).setLineActive false).setRx f.bytes = b.withListen (some 1) := by
        rw [← heard]
        rfl
      obtain ⟨_, _, station⟩ := lauTakesFrame_line f b
      have stationHeard : b.station = s.station := by rw [← heard]; rfl
      have keeps := ownerOf_ownerKeeps (lauTakesFrame f b) f
      rw [if_neg own] at now
      rw [if_neg (by exact own), heard', lauTakesFrame_withListen,
        ownerOf_withListen (by rw [station, stationHeard]; exact listening)] at then'
      refine waitEnds then' now runs mode ?_ ?_
      · rw [keeps.station, station, stationHeard, timer]
      · rw [keeps.lau, lauTakesFrame_lau]
        exact Option.some_ne_none _
  · refine endCorrupted_waitEnds (bytes := f.bytes.take 266) waits hears (fun t => (row t).trans ?_) runs mode
    unfold arrive
    rw [if_neg (by rw [show (!(s.withListen t).lau.phase.hears || (s.withListen t).unseenActivity) = false
      from hears_iff.mpr hears]; exact Bool.false_ne_true), if_pos (not_of_ne_true valid)]

end

end Sys2Proof.Machine

/-! PROOFS. The rows of the timers (R48, R51, R67, R72, R106, R115, R139, R155, R160, R161). -/

namespace Sys2Proof.Machine

section
variable {s u : State} {i : Instr}

/-- What ends on the line, or the silent round, ends the wait for L (R51). -/
theorem waitEnds_by_event (waits : WaitsForL s) (hears : Hears s)
    (event : (s.lau.phase = .contention 32 true ∧ i = .silentRound) ∨ (∃ a, i = .corruptedFrame a) ∨
      ∃ f, receivedFrame s.station.number i = some f)
    (runs : exec i (s.withListen (some 1)) = .next u) (mode : u.station.mode = .listening) :
    exec i s = .next ((u.setStation { u.station with
      mode := .joining, joinReady := true, listenTimer := none }).setPort
        { u.port with notices := { u.port.notices with stateChange := true } }) := by
  rcases event with ⟨slot32, rfl⟩ | ⟨a, rfl⟩ | ⟨f, row⟩
  · exact waitEnds (v := s.setLau s.lau.afterSilentRound) (exec_silentRound (s := s.withListen (some 1)) slot32)
      (exec_silentRound slot32) runs mode waits.2 nofun
  · have row (t : State) : exec (.corruptedFrame a) t = .next (match checkActivity a with
        | .valid f => arrive f (ownerOf f) t
        | .corrupted => endCorrupted (bufferedBytes a) t
        | .malformed => endCorrupted (bufferedBytes a) t) := rfl
    cases found : checkActivity a with
    | valid f =>
      simp only [found] at row
      exact arrive_waitEnds waits hears (fun t => row _) runs mode
    | corrupted =>
      simp only [found] at row
      exact endCorrupted_waitEnds waits hears (fun t => row _) runs mode
    | malformed =>
      simp only [found] at row
      exact endCorrupted_waitEnds waits hears (fun t => row _) runs mode
  · exact arrive_waitEnds waits hears (fun t => exec_receivedFrame row) runs mode

/-! ### A timer that has not counted to its end -/

theorem not_hasRunOut {t : Option Nat} (running : t ≠ some 0) : ¬hasRunOut t = true :=
  fun out => running ((hasRunOut_iff t).mp out)

theorem exec_timerRow_running (timer : isTimerRow i = true) (running : timerOf s i ≠ some 0) :
    exec i s = .next s := by
  cases i <;> first | exact absurd timer Bool.false_ne_true | skip
  case listenTimerExpiry => exact congrArg Host.Outcome.next (if_neg (not_hasRunOut running))
  case presenceTimerExpiry => exact congrArg Host.Outcome.next (if_neg fun ⟨out, _⟩ => not_hasRunOut running out)
  case peerExpiry => exact congrArg Host.Outcome.next (if_neg fun ⟨_, out⟩ => not_hasRunOut running out)
  case channelPauseExpiry => exact congrArg Host.Outcome.next (if_neg (not_hasRunOut running))
  case dataWaitExpiry => exact congrArg Host.Outcome.next (if_neg fun ⟨out, _⟩ => not_hasRunOut running out)
  case deadlineExpiry => exact congrArg Host.Outcome.next (if_neg (not_hasRunOut running))
  case contextPauseExpiry => exact congrArg Host.Outcome.next (if_neg (not_hasRunOut running))
  case idleTimerExpiry k =>
    refine congrArg Host.Outcome.next (if_neg fun ⟨out, active⟩ => running ?_)
    have notLingering : (s.context k).state ≠ .lingering := fun lingering => by
      rw [lingering] at active
      exact absurd active Bool.false_ne_true
    exact (if_neg notLingering).trans ((hasRunOut_iff _).mp out)
  case lingerExpiry k =>
    exact congrArg Host.Outcome.next (if_neg fun ⟨out, lingering⟩ =>
      running ((if_pos lingering).trans ((hasRunOut_iff _).mp out)))

end

/-- Settles O35. -/
theorem timersRunOut : Obligations.TimersRunOut := by
  refine ⟨fun s => ⟨fun listening out => ?listen, fun i u waits hears event runs mode =>
      waitEnds_by_event waits hears event runs mode, fun online out => ?presence⟩,
    fun s c => ⟨fun out => ?pause, fun data out => ?wait⟩,
    fun s k => ⟨fun out => ?contextPause, fun going out => ?idle, fun lingering out => ?linger⟩,
    fun s i timer running => exec_timerRow_running timer running⟩
  case listen =>
    have row : exec .listenTimerExpiry s =
        .next (checkListening (s.setStation { s.station with listenTimer := none })) :=
      congrArg Host.Outcome.next (if_pos ((hasRunOut_iff _).mpr out))
    rw [row]
    exact ⟨fun unknown => congrArg Host.Outcome.next (if_neg fun ⟨_, _, known⟩ => known unknown),
      fun known => congrArg Host.Outcome.next (if_pos ⟨listening, rfl, known⟩)⟩
  case presence => exact congrArg Host.Outcome.next (if_pos ⟨(hasRunOut_iff _).mpr out, online⟩)
  case pause => exact congrArg Host.Outcome.next (if_pos ((hasRunOut_iff _).mpr out))
  case wait =>
    refine congrArg Host.Outcome.next ((if_pos ⟨(hasRunOut_iff _).mpr out, data⟩).trans ?_)
    rw [enterClose_setChannel]
  case contextPause => exact congrArg Host.Outcome.next (if_pos ((hasRunOut_iff _).mpr out))
  case idle =>
    have active : (s.context k).state.active = true := by
      rcases going with state | state | state <;> rw [state] <;> rfl
    exact ⟨_, congrArg Host.Outcome.next (if_pos ⟨(hasRunOut_iff _).mpr out, active⟩), endContext_ends ..⟩
  case linger =>
    exact ⟨_, congrArg Host.Outcome.next (if_pos ⟨(hasRunOut_iff _).mpr out, lingering⟩), freeContext_freed ..⟩

end Sys2Proof.Machine

/-! PROOFS. What is pending on a channel while its ask takes an outcome (R103, R104, R125, R131). -/

namespace Sys2Proof.Machine

/-! ### A record with something pending -/

/-- The record with an end and a hold pending as given. -/
def Channel.pends (ch : Channel) (e : Option Condition) (h : Bool) : Channel :=
  { ch with endPending := e, holdPending := h }

/-- How a channel whose outcome is taken with something pending stands to the one with nothing pending: it has ended
alike, or its record differs in what is pending, and its claim may not have been made (R104, R108, R125). -/
def Follows (c : ChannelNo) (e : Option Condition) (h : Bool) (w₀ w : State) : Prop :=
  ((w₀.channel c).state.ended = true ∧ w = w₀) ∨
    ((w₀.channel c).state.ended = false ∧ (w₀.channel c).endPending = none ∧ (w₀.channel c).holdPending = false ∧
      withdrawChannelClaim c w = withdrawChannelClaim c (w₀.setChannel c ((w₀.channel c).pends e h)))

section
variable {b : State} {c : ChannelNo} {ch : Channel} {e : Option Condition} {h : Bool} {cond : Condition} {detail : Byte}

theorem follows_record (b : State) (c : ChannelNo) (e : Option Condition) (h : Bool)
    (going : ch.state.ended = false) (noEnd : ch.endPending = none)
    (noHold : ch.holdPending = false) : Follows c e h (b.setChannel c ch) (b.setChannel c (ch.pends e h)) := by
  refine .inr ?_
  rw [State.setChannel_channel_same, State.setChannel_setChannel]
  exact ⟨going, noEnd, noHold, rfl⟩

theorem endChannel_pends (b : State) (c : ChannelNo) (ch : Channel) (e : Option Condition) (h : Bool) (cond : Condition)
    (detail : Byte) : endChannel c cond detail (b.setChannel c (ch.pends e h)) =
      endChannel c cond detail (b.setChannel c ch) := by
  unfold endChannel
  rw [State.setChannel_channel_same, State.setChannel_channel_same, State.setChannel_setChannel,
    State.setChannel_setChannel]
  rfl

/-- An end is the same with and without something pending (R118). -/
theorem follows_end (b : State) (c : ChannelNo) (ch : Channel) (e : Option Condition) (h : Bool) (cond : Condition)
    (detail : Byte) : Follows c e h (endChannel c cond detail (b.setChannel c ch))
      (endChannel c cond detail (b.setChannel c (ch.pends e h))) :=
  .inl ⟨endChannel_ended .., endChannel_pends ..⟩

theorem claimFrame_setChannel (b : State) (c : ChannelNo) (ch : Channel) : claimFrame c (b.setChannel c ch) =
    (b.setChannel c { ch with built := false, attempts := 0 }).setChans
      { (b.setChannel c { ch with built := false, attempts := 0 }).chans with
        claims := b.chans.claims ++ [{ ch := c, address := ch.nextAddress, length := ch.nextLength }] } := by
  unfold claimFrame
  dsimp only
  rw [State.setChannel_channel_same, State.setChannel_setChannel]
  rfl

/-- The claim for the next DATA does not read what is pending (R108). -/
theorem follows_claim (b : State) (c : ChannelNo) (e : Option Condition) (h : Bool) (going : ch.state.ended = false)
    (noEnd : ch.endPending = none) (noHold : ch.holdPending = false) :
    Follows c e h (claimFrame c (b.setChannel c ch)) (claimFrame c (b.setChannel c (ch.pends e h))) := by
  have record : (claimFrame c (b.setChannel c ch)).channel c = { ch with built := false, attempts := 0 } := by
    rw [(claimFrame_claims _ c).record, State.setChannel_channel_same]
  refine .inr ?_
  rw [record]
  refine ⟨going, noEnd, noHold, congrArg (withdrawChannelClaim c) ?_⟩
  have apart (x y : Channel) (claims : List ChannelClaim) :
      ((b.setChannel c x).setChans { (b.setChannel c x).chans with claims := claims }).setChannel c y =
        ((b.setChannel c x).setChannel c y).setChans
          { ((b.setChannel c x).setChannel c y).chans with claims := claims } := rfl
  rw [claimFrame_setChannel, claimFrame_setChannel, apart, State.setChannel_setChannel]
  rfl

/-! ### The outcomes -/

theorem channelNoAnswer_setChannel (b : State) (c : ChannelNo) (asked : ch.state.phase ≠ none ∨ ch.state = .aborting) :
    channelNoAnswer c (b.setChannel c ch) =
      if ch.attempts + 1 < b.attemptLimit then b.setChannel c { ch with attempts := ch.attempts + 1 }
      else endChannel c (exhaustedCondition ch) 0 (b.setChannel c { ch with attempts := ch.attempts + 1 }) := by
  rw [channelNoAnswer, State.setChannel_channel_same, setAttempts_setChannel,
    endExhausted_eq (by rw [State.setChannel_channel_same]; exact asked), State.setChannel_channel_same]
  rfl

end

section
variable (b : State) (c : ChannelNo) {ch : Channel} (e : Option Condition) (h : Bool)

theorem follows_noAnswer (asked : ch.state.phase ≠ none ∨ ch.state = .aborting) (noEnd : ch.endPending = none)
    (noHold : ch.holdPending = false) :
    Follows c e h (channelNoAnswer c (b.setChannel c ch)) (channelNoAnswer c (b.setChannel c (ch.pends e h))) := by
  rw [channelNoAnswer_setChannel b c asked, channelNoAnswer_setChannel (ch := ch.pends e h) b c asked]
  by_cases below : ch.attempts + 1 < b.attemptLimit
  · rw [if_pos below, if_pos (by exact below)]
    exact follows_record (ch := { ch with attempts := ch.attempts + 1 }) b c e h
      (ChannelState.not_ended_of_phase asked) noEnd noHold
  · rw [if_neg below, if_neg (by exact below)]
    exact follows_end b c { ch with attempts := ch.attempts + 1 } e h _ _

theorem follows_request (state : ch.state = .request) (noEnd : ch.endPending = none) (noHold : ch.holdPending = false)
    (a : Answer) :
    Follows c e h (requestTaken c a (b.setChannel c ch)) (requestTaken c a (b.setChannel c (ch.pends e h))) := by
  have going : ch.state.ended = false := by rw [state]; rfl
  have unanswered := follows_noAnswer b c e h (.inl (by rw [state]; nofun)) noEnd noHold
  cases a with
  | accept =>
    show Follows c e h (requestAccepted c (b.setChannel c ch)) (requestAccepted c (b.setChannel c (ch.pends e h)))
    by_cases empty : ch.desc.total = 0
    · rw [requestAccepted_close empty, requestAccepted_close (ch := ch.pends e h) empty]
      exact follows_record (ch := { ch with state := .close, attempts := 0, dataWait := none, built := false })
        b c e h rfl noEnd noHold
    · by_cases put : ch.desc.op = .put
      · rw [requestAccepted_put empty put, requestAccepted_put (ch := ch.pends e h) empty put]
        exact follows_claim (ch := { ch with state := .data }) b c e h rfl noEnd noHold
      · rw [requestAccepted_get empty put, requestAccepted_get (ch := ch.pends e h) empty put]
        exact follows_record
          (ch := { ch with state := .data, attempts := 0, toggle := false, dataWait := some b.idleLength })
          b c e h rfl noEnd noHold
  | refuse r =>
    by_cases defers : r = 1#8 ∨ r = 2#8
    · rw [requestTaken_deferred defers, requestTaken_deferred (ch := ch.pends e h) defers]
      by_cases below : ch.attempts + 1 < b.attemptLimit
      · rw [if_pos below, if_pos (by exact below)]
        exact follows_record
          (ch := { ch with attempts := ch.attempts + 1, pauseTimer := some b.presenceLength })
          b c e h going noEnd noHold
      · rw [if_neg below, if_neg (by exact below)]
        exact follows_end b c { ch with attempts := ch.attempts + 1 } e h _ _
    · obtain ⟨other, other'⟩ := not_or.mp defers
      rw [requestTaken_refused other other', requestTaken_refused (ch := ch.pends e h) other other']
      exact follows_end b c { ch with attempts := 0 } e h _ _
  | report p =>
    show Follows c e h (endChannel c .badReport 0 (setAttempts c 0 (b.setChannel c ch)))
      (endChannel c .badReport 0 (setAttempts c 0 (b.setChannel c (ch.pends e h))))
    rw [setAttempts_setChannel, setAttempts_setChannel]
    exact follows_end b c { ch with attempts := 0 } e h _ _
  | ack t => exact unanswered
  | wait => exact unanswered

/-- The ACK of a PUT's DATA with a hold pending: no claim is made (R109, R125). -/
theorem putConfirmed_held (hold : ch.holdPending = true) : putConfirmed c (b.setChannel c ch) =
    if ch.acknowledged.remaining = 0 then
      (b.setChannel c { ch.acknowledged with state := .close, dataWait := none, built := false }).progressed c
        (progressOf ch).2
    else (b.setChannel c { ch.acknowledged with built := false }).progressed c (progressOf ch).2 := by
  unfold putConfirmed
  dsimp only
  rw [State.setChannel_channel_same, acknowledges, progressed_channel, hold]
  by_cases all : ch.acknowledged.remaining = 0
  · rw [if_pos all, if_pos all, enterClose, progressed_channel, setChannel_progressed]
    rfl
  · rw [if_neg all, if_neg all, if_pos rfl, setChannel_progressed]

/-- A claim not made is a claim withdrawn (R108). -/
theorem withdrawChannelClaim_claimFrame (b : State) (c : ChannelNo) (ch : Channel) :
    withdrawChannelClaim c (claimFrame c (b.setChannel c ch)) =
      withdrawChannelClaim c (b.setChannel c { ch with built := false, attempts := 0 }) := by
  have filtered : (b.chans.claims ++ [ChannelClaim.mk c ch.nextAddress ch.nextLength]).filter
      (fun cl => decide (cl.ch ≠ c)) = b.chans.claims.filter fun cl => decide (cl.ch ≠ c) := by
    simp
  rw [claimFrame_setChannel]
  exact congrArg (fun claims => (b.setChannel c { ch with built := false, attempts := 0 }).setChans
    { (b.setChannel c { ch with built := false, attempts := 0 }).chans with claims := claims }) filtered

/-- The ACK of a PUT's DATA: a hold pending withholds the claim, which the hold would withdraw (R108, R109, R125). -/
theorem follows_putConfirmed (state : ch.state = .data) (noEnd : ch.endPending = none) (noHold : ch.holdPending = false) :
    Follows c e h (putConfirmed c (b.setChannel c ch)) (putConfirmed c (b.setChannel c (ch.pends e h))) := by
  have going : ch.acknowledged.state.ended = false := by
    show ch.state.ended = false
    rw [state]
    rfl
  have counted (x : Channel) : (b.setChannel c x).progressed c (progressOf ch).2 =
      (b.progressed c (progressOf ch).2).setChannel c x := rfl
  rw [putConfirmed_setChannel noHold, counted, counted]
  cases h with
  | false =>
    rw [putConfirmed_setChannel (ch := ch.pends e false) rfl]
    by_cases all : ch.acknowledged.remaining = 0
    · rw [if_pos all, if_pos (by exact all)]
      exact follows_record
        (ch := { ch.acknowledged with state := .close, dataWait := none, built := false }) _ c e false rfl noEnd noHold
    · rw [if_neg all, if_neg (by exact all)]
      exact follows_claim (ch := ch.acknowledged) _ c e false going noEnd noHold
  | true =>
    rw [putConfirmed_held (ch := ch.pends e true) b c rfl]
    by_cases all : ch.acknowledged.remaining = 0
    · rw [if_pos all, if_pos (by exact all)]
      exact follows_record
        (ch := { ch.acknowledged with state := .close, dataWait := none, built := false }) _ c e true rfl noEnd noHold
    · rw [if_neg all, if_neg (by exact all)]
      have record : (claimFrame c ((b.progressed c (progressOf ch).2).setChannel c ch.acknowledged)).channel c =
          { ch.acknowledged with built := false, attempts := 0 } := by
        rw [(claimFrame_claims _ c).record, State.setChannel_channel_same]
      have withdraws (s : State) (x : Channel) : withdrawChannelClaim c (s.setChannel c x) =
          (withdrawChannelClaim c s).setChannel c x := rfl
      refine .inr ?_
      rw [record, withdraws (claimFrame c _), withdrawChannelClaim_claimFrame, ← withdraws, State.setChannel_setChannel]
      exact ⟨going, noEnd, noHold, rfl⟩

end

end Sys2Proof.Machine

/-! PROOFS. What is pending on a channel, applied after the outcome of its ask (R19, R57, R103, R104, R122, R125,
R131). -/

namespace Sys2Proof.Machine

theorem Follows.ite {c : ChannelNo} {e : Option Condition} {h : Bool} {u₀ u w₀ w : State} {check : Prop} [Decidable check]
    (yes : Follows c e h u₀ u) (no : Follows c e h w₀ w) :
    Follows c e h (if check then u₀ else w₀) (if check then u else w) := by
  split
  · exact yes
  · exact no

section
variable (b : State) (c : ChannelNo) {ch : Channel} (e : Option Condition) (h : Bool)

/-! ### The answers -/

theorem follows_putData (state : ch.state = .data) (noEnd : ch.endPending = none) (noHold : ch.holdPending = false)
    (a : Answer) :
    Follows c e h (putDataTaken c a (b.setChannel c ch)) (putDataTaken c a (b.setChannel c (ch.pends e h))) := by
  have unanswered := follows_noAnswer b c e h (.inl (by rw [state]; nofun)) noEnd noHold
  have ends (cond : Condition) (detail : Byte) : Follows c e h
      (endChannel c cond detail (setAttempts c 0 (b.setChannel c ch)))
      (endChannel c cond detail (setAttempts c 0 (b.setChannel c (ch.pends e h)))) := by
    rw [setAttempts_setChannel, setAttempts_setChannel]
    exact follows_end b c { ch with attempts := 0 } e h cond detail
  cases a with
  | accept => exact unanswered
  | refuse r => exact ends .refused r
  | ack t =>
    rw [putDataTaken_ack, putDataTaken_ack]
    by_cases same : t = ch.toggle
    · rw [if_pos same, if_pos (by exact same)]
      exact follows_putConfirmed b c e h state noEnd noHold
    · rw [if_neg same, if_neg (by exact same)]
      exact unanswered
  | wait => exact unanswered
  | report p =>
    unfold putDataTaken
    dsimp only
    split
    · exact ends .remoteEnded (reportResult p)
    · exact ends .badReport 0

theorem endDone_pends : endDone c (b.setChannel c (ch.pends e h)) = endDone c (b.setChannel c ch) := by
  unfold endDone
  dsimp only
  rw [endChannel_pends, State.setChannel_channel_same, State.setChannel_channel_same]
  rfl

theorem follows_closeReported (p : List Byte) : Follows c e h (closeReported c p (b.setChannel c ch))
    (closeReported c p (b.setChannel c (ch.pends e h))) := by
  have ends := follows_end b c ch e h
  unfold closeReported
  dsimp only
  rw [State.setChannel_channel_same, State.setChannel_channel_same]
  exact .ite (ends ..) (.ite (ends ..) (.ite (ends ..) (.ite (ends ..) (.ite (ends ..)
    (.inl ⟨endDone_ended .., endDone_pends ..⟩)))))

theorem follows_close (state : ch.state = .close) (noEnd : ch.endPending = none) (noHold : ch.holdPending = false)
    (a : Answer) :
    Follows c e h (closeTaken c a (b.setChannel c ch)) (closeTaken c a (b.setChannel c (ch.pends e h))) := by
  have unanswered := follows_noAnswer b c e h (.inl (by rw [state]; nofun)) noEnd noHold
  have ends := follows_end b c { ch with attempts := 0 } e h
  cases a with
  | report p =>
    rw [closeTaken_report, closeTaken_report]
    exact follows_closeReported (ch := { ch with attempts := 0 }) b c e h p
  | refuse r =>
    rw [closeTaken_refuse, closeTaken_refuse]
    exact .ite (ends ..) (.ite (ends ..) (ends ..))
  | accept => exact unanswered
  | ack t => exact unanswered
  | wait => exact unanswered

theorem follows_abort (state : ch.state = .aborting) (noEnd : ch.endPending = none) (noHold : ch.holdPending = false)
    (a : Answer) :
    Follows c e h (abortTaken c a (b.setChannel c ch)) (abortTaken c a (b.setChannel c (ch.pends e h))) := by
  have unanswered := follows_noAnswer b c e h (.inr state) noEnd noHold
  have ends : Follows c e h
      (endChannel c ((b.setChannel c ch).channel c).abortReason.condition 0 (setAttempts c 0 (b.setChannel c ch)))
      (endChannel c ((b.setChannel c (ch.pends e h)).channel c).abortReason.condition 0
        (setAttempts c 0 (b.setChannel c (ch.pends e h)))) := by
    rw [setAttempts_setChannel, setAttempts_setChannel, State.setChannel_channel_same, State.setChannel_channel_same]
    exact follows_end b c { ch with attempts := 0 } e h ch.abortReason.condition 0
  cases a with
  | report p => exact ends
  | refuse r => exact ends
  | accept => exact unanswered
  | ack t => exact unanswered
  | wait => exact unanswered

theorem follows_taken (asked : ch.state.phase ≠ none ∨ ch.state = .aborting) (noEnd : ch.endPending = none)
    (noHold : ch.holdPending = false) (a : Answer) :
    Follows c e h (channelTaken c a (b.setChannel c ch)) (channelTaken c a (b.setChannel c (ch.pends e h))) := by
  cases state : ch.state with
  | request =>
    rw [channelTaken_request state, channelTaken_request (ch := ch.pends e h) state]
    exact follows_request b c e h state noEnd noHold a
  | data =>
    by_cases put : ch.desc.op = .put
    · rw [channelTaken_putData state put, channelTaken_putData (ch := ch.pends e h) state put]
      exact follows_putData b c e h state noEnd noHold a
    · have still {x : Channel} (data : x.state = .data) (get : x.desc.op ≠ .put) :
          channelTaken c a (b.setChannel c x) = b.setChannel c x := by
        simp only [channelTaken, State.setChannel_channel_same, data]
        exact if_neg get
      rw [still state put, still (x := ch.pends e h) state put]
      exact follows_record b c e h (ChannelState.not_ended_of_phase asked) noEnd noHold
  | close =>
    rw [channelTaken_close state, channelTaken_close (ch := ch.pends e h) state]
    exact follows_close b c e h state noEnd noHold a
  | aborting =>
    rw [channelTaken_aborting state, channelTaken_aborting (ch := ch.pends e h) state]
    exact follows_abort b c e h state noEnd noHold a
  | _ =>
    rw [state] at asked
    rcases asked with phase | aborting
    · exact absurd rfl phase
    · cases aborting

end

/-! ### The outcome, and then what is pending -/

/-- The outcome of a channel's ask before what is pending is looked at (R103). -/
def outcomeTaken (c : ChannelNo) (o : AskOutcome) (s : State) : State :=
  match o with
  | .taken a => channelTaken c a s
  | .noAnswer => channelNoAnswer c s
  | .collided => s

section
variable {b v w w₀ : State} {c : ChannelNo} {e : Option Condition} {h : Bool} {o : AskOutcome}

theorem channelOutcome_eq (c : ChannelNo) (o : AskOutcome) (b : State) : channelOutcome c o b =
    applyPending c (outcomeTaken c o (b.setChannel c { b.channel c with askInFlight := false })) := by
  cases o <;> rfl

theorem endChannel_withdrawn (s : State) (c : ChannelNo) (r : Condition) (detail : Byte) :
    endChannel c r detail s = endChannel c r detail (withdrawChannelClaim c s) := by
  have twice : (s.chans.claims.filter fun cl => decide (cl.ch ≠ c)).filter (fun cl => decide (cl.ch ≠ c)) =
      s.chans.claims.filter fun cl => decide (cl.ch ≠ c) := by
    rw [List.filter_filter]
    simp
  have apart (claims : List ChannelClaim) (x : Channel) :
      withdrawChannelClaim c (markEnded c ((s.setChans { s.chans with claims := claims }).setChannel c x)) =
        (markEnded c (s.setChannel c x)).setChans { (markEnded c (s.setChannel c x)).chans with
          claims := claims.filter fun cl => decide (cl.ch ≠ c) } := rfl
  show _ = withdrawChannelClaim c (markEnded c ((s.setChans { s.chans with
    claims := s.chans.claims.filter fun cl => decide (cl.ch ≠ c) }).setChannel c ((s.channel c).ended r detail)))
  rw [apart, twice]
  rfl

theorem enterHeld_withdrawn (s : State) (c : ChannelNo) (p : HeldPhase) :
    enterHeld c p s = enterHeld c p (withdrawChannelClaim c s) := by
  have twice : (s.chans.claims.filter fun cl => decide (cl.ch ≠ c)).filter (fun cl => decide (cl.ch ≠ c)) =
      s.chans.claims.filter fun cl => decide (cl.ch ≠ c) := by
    rw [List.filter_filter]
    simp
  have apart (claims : List ChannelClaim) (x : Channel) :
      withdrawChannelClaim c ((s.setChans { s.chans with claims := claims }).setChannel c x) =
        (s.setChannel c x).setChans { (s.setChannel c x).chans with
          claims := claims.filter fun cl => decide (cl.ch ≠ c) } := rfl
  show _ = withdrawChannelClaim c ((s.setChans { s.chans with
    claims := s.chans.claims.filter fun cl => decide (cl.ch ≠ c) }).setChannel c ((s.channel c).held p))
  rw [apart, twice]
  rfl

end

end Sys2Proof.Machine

/-! PROOFS. Events that resolve a channel's ask, with something pending on the channel (R19, R57, R103, R104, R125,
R131). -/

namespace Sys2Proof.Machine

/-! ### After the outcome -/

section
variable {b v w w₀ : State} {c : ChannelNo} {e : Option Condition} {h : Bool} {o : AskOutcome}

theorem follows_outcome (b : State) (c : ChannelNo) (o : AskOutcome) (e : Option Condition) (h : Bool) {ch : Channel}
    (asked : ch.state.phase ≠ none ∨ ch.state = .aborting) (noEnd : ch.endPending = none)
    (noHold : ch.holdPending = false) :
    Follows c e h (outcomeTaken c o (b.setChannel c ch)) (outcomeTaken c o (b.setChannel c (ch.pends e h))) := by
  cases o with
  | taken a => exact follows_taken b c e h asked noEnd noHold a
  | noAnswer => exact follows_noAnswer b c e h asked noEnd noHold
  | collided => exact follows_record b c e h (ChannelState.not_ended_of_phase asked) noEnd noHold

/-- What is pending, applied to a channel that follows one with nothing pending (R104, R125). -/
theorem Follows.applies (follows : Follows c e h w₀ w) :
    (((w₀.channel c).state = .done ∨ (w₀.channel c).state = .failed) → applyPending c w = w₀) ∧
    (∀ r, (w₀.channel c).state ≠ .done → (w₀.channel c).state ≠ .failed → e = some r →
      ChannelEnds c r 0 w₀ (applyPending c w)) ∧
    (∀ p, (w₀.channel c).state.phase = some p → e = none → h = true → ChannelHeld c p w₀ (applyPending c w)) := by
  rcases follows with ⟨ended, same⟩ | ⟨going, noEnd, noHold, same⟩
  · rw [same, applyPending_ended ended]
    refine ⟨fun _ => rfl, fun r notDone notFailed _ => ?_, fun p phase => ?_⟩
    · exact ((ChannelState.ended_iff.mp ended).elim notDone notFailed).elim
    · rw [ChannelState.not_ended_of_phase (.inl (by rw [phase]; exact Option.some_ne_none p))] at ended
      exact absurd ended Bool.false_ne_true
  · have record : w.channel c = (w₀.channel c).pends e h := by
      have read (s : State) : (withdrawChannelClaim c s).channel c = s.channel c := rfl
      rw [← read w, same, read, State.setChannel_channel_same]
    have self : w₀.setChannel c (w₀.channel c) = w₀ := by
      unfold State.setChannel State.channel
      rw [Vector.set_getElem_self]
      rfl
    have going' : (w.channel c).state.ended = false := by
      rw [record]
      exact going
    refine ⟨fun is => ?_, fun r _ _ pending => ?_, fun p phase noEnd' pending => ?_⟩
    · rw [ChannelState.ended_iff.mpr is] at going
      cases going
    · rw [applyPending_end going' (by rw [record]; exact pending), endChannel_withdrawn, same, ← endChannel_withdrawn,
        endChannel_pends, self]
      exact endChannel_ends ..
    · have held : enterHeld c p (w₀.setChannel c ((w₀.channel c).pends e h)) = enterHeld c p w₀ := by
        unfold enterHeld
        rw [State.setChannel_channel_same, State.setChannel_setChannel, noEnd', ← noEnd]
        rfl
      rw [applyPending_hold (by rw [record]; exact noEnd') (by rw [record]; exact phase) (by rw [record]; exact pending),
        enterHeld_withdrawn, same, ← enterHeld_withdrawn, held]
      exact enterHeld_held ..

/-- An ask's outcome is taken as with nothing pending, and then what is pending is applied (R103, R104, R125). -/
theorem channelOutcome_pending (asked : (b.channel c).state.phase ≠ none ∨ (b.channel c).state = .aborting)
    (clear : channelOutcome c o (b.setChannel c { b.channel c with endPending := none, holdPending := false }) = v) :
    (((v.channel c).state = .done ∨ (v.channel c).state = .failed) → channelOutcome c o b = v) ∧
    (∀ r, (v.channel c).state ≠ .done → (v.channel c).state ≠ .failed → (b.channel c).endPending = some r →
      ChannelEnds c r 0 v (channelOutcome c o b)) ∧
    (∀ p, (v.channel c).state.phase = some p → (b.channel c).endPending = none → (b.channel c).holdPending = true →
      ChannelHeld c p v (channelOutcome c o b)) := by
  have follows := follows_outcome b c o (b.channel c).endPending (b.channel c).holdPending
    (ch := { b.channel c with askInFlight := false, endPending := none, holdPending := false }) asked rfl rfl
  rw [channelOutcome_eq, State.setChannel_channel_same, State.setChannel_setChannel] at clear
  have settled : applyPending c (outcomeTaken c o (b.setChannel c
      { b.channel c with askInFlight := false, endPending := none, holdPending := false })) =
      outcomeTaken c o (b.setChannel c
        { b.channel c with askInFlight := false, endPending := none, holdPending := false }) := by
    rcases follows with ⟨ended, _⟩ | ⟨_, noEnd, noHold, _⟩
    · exact applyPending_ended ended
    · exact applyPending_none noEnd noHold
  have is := clear.symm.trans settled
  rw [channelOutcome_eq, is]
  exact follows.applies

end

/-! ### The events -/

section
variable {s : State} {c : ChannelNo} {i : Instr}

theorem resolveAsk_setLau (o : AskOutcome) (s : State) (l : Lau) (same : l.ask = s.lau.ask) :
    resolveAsk o (s.setLau l) = (resolveAsk o s).setLau { l with ask := none } := by
  have kept : resolveAsk o s = (resolveAsk o s).withLine { s.lineSide with lau := { s.lau with ask := none } } :=
    resolveAsk_withLine (s := s) (n := s.lineSide) o rfl
  have moved : resolveAsk o (s.setLau l) =
      (resolveAsk o s).withLine { s.lineSide with lau := { l with ask := none } } :=
    resolveAsk_withLine (s := s) (n := { s.lineSide with lau := l }) o same
  rw [moved]
  conv_rhs => rw [kept]
  rfl

/-- The LAU after a collision below the third counted one, but for the channel's part (R13, R14, R19). -/
def collidedCounted (s : State) (x : Transmission) : State :=
  (collided s x).setLau { (collided s x).lau with clash := if x.counts then s.lau.clash + 1 else s.lau.clash }

theorem exec_collision_channel {x : Transmission} {a : Ask} (sends : s.lau.phase = .transmitting x)
    (noJam : x.jam = false) (below : x.source = none ∨ x.recoveryRound = true → s.lau.clash < 2)
    (asks : s.lau.ask = some a) (source : a.source = .channel c) :
    exec .collision s = .next (channelOutcome c .collided (collidedCounted s x)) := by
  have outcome (n : Nat) : resolveAsk .collided ((jammed x s).setLau { (jammed x s).lau with clash := n }) =
      channelOutcome c .collided ((collided s x).setLau { (collided s x).lau with clash := n }) := by
    rw [resolveAsk_channel (s := (jammed x s).setLau { (jammed x s).lau with clash := n }) _ asks source]
    rfl
  rw [exec_collision sends noJam]
  by_cases counts : x.counts = true
  · have clash : (resolveAsk .collided (jammed x s)).lau.clash = s.lau.clash := by
      rw [resolveAsk_lau]
      rfl
    have counted : (resolveAsk .collided (jammed x s)).setLau
        { (resolveAsk .collided (jammed x s)).lau with clash := s.lau.clash + 1 } =
        resolveAsk .collided ((jammed x s).setLau { (jammed x s).lau with clash := s.lau.clash + 1 }) := by
      rw [resolveAsk_setLau .collided (jammed x s) { (jammed x s).lau with clash := s.lau.clash + 1 } rfl,
        resolveAsk_lau]
    rw [if_pos counts, countClash_below (by rw [clash]; exact below (Transmission.counts_iff.mp counts)), clash, counted,
      outcome, collidedCounted, if_pos counts]
  · have kept : jammed x s = (jammed x s).setLau { (jammed x s).lau with clash := s.lau.clash } := rfl
    rw [if_neg counts, kept, outcome, collidedCounted, if_neg counts]

/-- What resolves a channel's ask gives its outcome to the state that the event leaves but for the channel, whatever the
channel's record (R8, R14, R16, R39). -/
theorem exec_resolves (event : (s.lau.phase = .replyGap ∧ i = .replyGapClose ∧
    ∃ a, s.lau.ask = some a ∧ a.source = .channel c) ∨
      (∃ f ans, AnswersAsk s (.channel c) i f ans) ∨
      (∃ x a, s.lau.phase = .transmitting x ∧ x.jam = false ∧
        (x.source = none ∨ x.recoveryRound = true → s.lau.clash < 2) ∧ i = .collision ∧ s.lau.ask = some a ∧
        a.source = .channel c)) :
    ∃ o b, b.channel c = s.channel c ∧ exec i s = .next (channelOutcome c o b) ∧
      ∀ ch, exec i (s.setChannel c ch) = .next (channelOutcome c o (b.setChannel c ch)) := by
  rcases event with ⟨gap, rfl, a, asks, source⟩ | ⟨f, ans, answers⟩ | ⟨x, a, sends, noJam, below, rfl, asks, source⟩
  · exact ⟨.noAnswer, gapClosed s, rfl, exec_replyGapClose_channel gap asks source,
      fun ch => exec_replyGapClose_channel (s := s.setChannel c ch) gap asks source⟩
  · refine ⟨.taken ans, s.heard f, heard_channel s f c, exec_answersChannel answers, fun ch => ?_⟩
    have answers' : AnswersAsk (s.setChannel c ch) (.channel c) i f ans :=
      ⟨answers.row, answers.frame, answers.valid, answers.hears, answers.known, answers.other, answers.own,
        answers.asked⟩
    have apart : (s.setChannel c ch).heard f = (s.heard f).setChannel c ch := by
      have read : (s.setChannel c ch).peer f.src = s.peer f.src := rfl
      unfold State.heard
      dsimp only
      rw [read]
      split <;> rfl
    rw [exec_answersChannel answers', apart]
  · exact ⟨.collided, collidedCounted s x, rfl, exec_collision_channel sends noJam below asks source,
      fun ch => exec_collision_channel (s := s.setChannel c ch) sends noJam below asks source⟩

end

/-- Settles O34. -/
theorem pendingAfterOutcome : Obligations.PendingAfterOutcome := by
  refine ⟨fun s u c i event asked clear => ?_, fun s v x i sends noJam counts two onLine which runs => ?_⟩
  · obtain ⟨o, b, record, now, cleared⟩ := exec_resolves event
    rw [cleared] at clear
    have outcome := channelOutcome_pending (b := b) (c := c) (o := o) (v := u) (by rw [record]; exact asked)
      (by rw [record]; exact Host.Outcome.next.inj clear)
    rw [record] at outcome
    obtain ⟨ended, ends, holds⟩ := outcome
    rw [now]
    exact ⟨fun is => congrArg Host.Outcome.next (ended is),
      fun r notDone notFailed pending => ⟨_, rfl, ends r notDone notFailed pending⟩,
      fun p phase noEnd pending => ⟨_, rfl, holds p phase noEnd pending⟩⟩
  · have counted := Transmission.counts_iff.mpr counts
    have same : exec i s = exec .collision s := by
      rcases which with rfl | rfl
      · rfl
      · exact exec_clashCountLimit_collision sends noJam counted two
    have resolved : resolveAsk .collided (jammed x (s.setLau { s.lau with clash := 0 })) =
        (resolveAsk .collided (jammed x s)).setLau { (jammed x s).lau with clash := 0, ask := none } :=
      resolveAsk_setLau .collided (jammed x s) { (jammed x s).lau with clash := 0 } rfl
    have lau := resolveAsk_lau (jammed x s) .collided
    have first : v = (resolveAsk .collided (jammed x s)).setLau
        { (jammed x s).lau with clash := 1, ask := none } := by
      rw [exec_collision (s := s.setLau { s.lau with clash := 0 }) sends noJam, if_pos counted, resolved,
        countClash_below (by exact Nat.zero_lt_two)] at runs
      exact (Host.Outcome.next.inj runs).symm
    have station : (resolveAsk .collided (jammed x s)).station = s.station := by
      rw [resolveAsk_stationBlock]
      rfl
    refine ⟨_, ?_, enterClash_enters _⟩
    rw [same, exec_collision sends noJam, if_pos counted,
      countClash_third (by rw [lau]; exact two) (by rw [station]; exact onLine), lau, first]
    rfl

end Sys2Proof.Machine

/-! PROOFS. An engine's burst into buffer memory, and the claims that are served before it (R170 to R174; log 13). -/

namespace Sys2Proof.Machine

/-! ### A burst -/

/-- A burst stores its bytes from its address on, wrapping after 65,535 (R170). -/
theorem memWrite_stores {m : List Host.Cell} (canonical : Memory.wf m = true) (address : Nat) (bytes : List Byte)
    (fits : bytes.length ≤ 65536) : Stores m (memWrite m address bytes) address bytes := by
  induction bytes generalizing m address with
  | nil => exact fun a _ => rfl
  | cons b rest ih =>
    intro a within
    rw [List.length_cons] at fits
    have put := memPut_wf (x := address % 65536) b canonical (Nat.mod_lt _ (by decide))
    have later := ih put (address + 1) (by omega) a within
    rw [memGet_memPut _ _ _ canonical] at later
    rw [memWrite, later]
    by_cases here : a = address % 65536
    · have start : (a + 65536 - address % 65536) % 65536 = 0 := by omega
      have past : rest.length ≤ (a + 65536 - (address + 1) % 65536) % 65536 := by omega
      rw [if_pos here, start, List.getD_cons_zero, List.getD_eq_default _ _ past]
    · have next : (a + 65536 - address % 65536) % 65536 = (a + 65536 - (address + 1) % 65536) % 65536 + 1 := by omega
      rw [if_neg here, next, List.getD_cons_succ]

/-! ### The state after a frame refreshed its sender, as one update -/

theorem heard_eq (s : State) (f : Frame) : s.heard f =
    ((s.afterFrame f).setPeer f.src { s.peer f.src with
      state := .present, expiry := some (s.expiryLength (s.peer f.src).announced) }).setPort
        { s.port with notices := { s.port.notices with
          peerChange := s.port.notices.peerChange || (s.peer f.src).state != .present } } := by
  unfold State.heard
  dsimp only
  by_cases present : (s.peer f.src).state = .present
  · rw [if_pos present, present, show (PeerState.present != PeerState.present) = false from rfl, Bool.or_false]
    rfl
  · rw [if_neg present, bne_iff_ne.mpr present, Bool.or_true]
    rfl

/-! ### One claim served -/

section
variable {s t : State} {who w : Claimant}

theorem serve_pointer (presented : presents s w = true) : (serve w s).buffer.pointer = w := by
  cases w with
  | host =>
    unfold serve serveHost
    dsimp only
    split
    · rename_i none
      simp [presents, none] at presented
    · rfl
    · rfl
  | channels =>
    unfold serve serveChannel
    dsimp only
    split
    · rename_i none
      simp [presents, none] at presented
    · rfl
  | responders =>
    unfold serve serveContext
    dsimp only
    split
    · rename_i none
      simp [presents, none] at presented
    · rfl

theorem serve_ctxs (other : w ≠ .responders) : (serve w s).ctxs = s.ctxs := by
  cases w with
  | host => unfold serve serveHost; dsimp only; split <;> rfl
  | channels => unfold serve serveChannel; dsimp only; split <;> rfl
  | responders => exact absurd rfl other

theorem serve_chans (other : w ≠ .channels) : (serve w s).chans = s.chans := by
  cases w with
  | host => unfold serve serveHost; dsimp only; split <;> rfl
  | channels => exact absurd rfl other
  | responders => unfold serve serveContext; dsimp only; split <;> rfl

theorem serve_windows (w : Claimant) (s : State) : (serve w s).windows = s.windows := by
  cases w with
  | host => unfold serve serveHost; dsimp only; split <;> rfl
  | channels => unfold serve serveChannel; dsimp only; split <;> rfl
  | responders => unfold serve serveContext; dsimp only; split <;> rfl

@[simp] theorem heard_hostClaims (s : State) (f : Frame) : (s.heard f).port.claims = s.port.claims := by
  rw [heard_eq]
  rfl

theorem heard_presents (s : State) (f : Frame) : presents (s.heard f) w = presents s w := by
  cases w <;> simp only [presents, heard_hostClaims, heard_chans, heard_ctxs]

theorem serve_silent (silent : presents s w = false) : serve w s = s := by
  cases w with
  | host =>
    have none : s.port.claims = [] := by simpa [presents] using silent
    show serveHost s = s
    rw [serveHost, none]
  | channels =>
    have none : s.chans.claims = [] := by simpa [presents] using silent
    show serveChannel s = s
    rw [serveChannel, none]
  | responders =>
    have none : s.ctxs.claims = [] := by simpa [presents] using silent
    show serveContext s = s
    rw [serveContext, none]

/-- The claims served do not meet what a frame does to the line and to its sender's entry. -/
theorem serve_heard (w : Claimant) (s : State) (f : Frame) : (serve w s).heard f = serve w (s.heard f) := by
  by_cases presented : presents s w = true
  · cases w with
    | host =>
      obtain ⟨cl, rest, oldest⟩ : ∃ cl rest, s.port.claims = cl :: rest :=
        List.exists_cons_of_ne_nil (by simpa [presents] using presented)
      show (serveHost s).heard f = serveHost (s.heard f)
      cases cl with
      | read a =>
        rw [serveHost_read oldest, serveHost_read ((heard_hostClaims s f).trans oldest), heard_eq, heard_eq]
        rfl
      | write a v =>
        rw [serveHost_write oldest, serveHost_write ((heard_hostClaims s f).trans oldest), heard_eq, heard_eq]
        rfl
    | channels =>
      obtain ⟨cl, rest, oldest⟩ : ∃ cl rest, s.chans.claims = cl :: rest :=
        List.exists_cons_of_ne_nil (by simpa [presents] using presented)
      have later : (s.heard f).chans.claims = cl :: rest := by rw [heard_chans, oldest]
      show (serveChannel s).heard f = serveChannel (s.heard f)
      rw [serveChannel_eq oldest, serveChannel_eq later, heard_eq, heard_eq]
      rfl
    | responders =>
      obtain ⟨cl, rest, oldest⟩ : ∃ cl rest, s.ctxs.claims = cl :: rest :=
        List.exists_cons_of_ne_nil (by simpa [presents] using presented)
      have later : (s.heard f).ctxs.claims = cl :: rest := by rw [heard_ctxs, oldest]
      show (serveContext s).heard f = serveContext (s.heard f)
      rw [serveContext_eq oldest, serveContext_eq later, heard_eq, heard_eq]
      rfl
  · have silent := Bool.eq_false_iff.mpr presented
    rw [serve_silent silent, serve_silent ((heard_presents s f).trans silent)]

/-! ### The claims before an engine's burst -/

/-- The row of a claimant's claim. -/
def claimRow : Claimant → Instr
  | .host => .hostClaimServed
  | .channels => .channelReadClaimServed
  | .responders => .contextReadClaimServed

theorem exec_claimRow (w : Claimant) (s : State) : exec (claimRow w) s = .next (serveInTurn w s) := by
  cases w <;> rfl

/-- The claim of `w` is served next, and before an engine's burst (R173). -/
structure ServedBefore (s : State) (who w : Claimant) : Prop where
  other : w ≠ who
  presented : presents s w = true
  first : ∃ skipped, claimantsBefore s.buffer.pointer who = skipped ++ w :: claimantsBefore w who ∧
    ∀ v ∈ skipped, presents s v = false

theorem serveEach_skips (l rest : List Claimant) (silent : ∀ v ∈ l, presents s v = false) :
    serveEach (l ++ rest) s = serveEach rest s := by
  induction l with
  | nil => rfl
  | cons v l ih =>
    obtain ⟨first, later⟩ := List.forall_mem_cons.mp silent
    rw [List.cons_append, serveEach, if_neg (by rw [first]; exact Bool.false_ne_true)]
    exact ih later

theorem ServedBefore.nextClaimant (before : ServedBefore s who w) : nextClaimant s = some w := by
  obtain ⟨skipped, order, silent⟩ := before.first
  refine List.find?_eq_some_iff_append.mpr ⟨before.presented, skipped,
    claimantsBefore w who ++ (claimantsAfter s.buffer.pointer).dropWhile (· ≠ who), ?_, fun v mem => ?_⟩
  · rw [← List.takeWhile_append_dropWhile (p := (· ≠ who)) (l := claimantsAfter s.buffer.pointer)]
    show claimantsBefore s.buffer.pointer who ++ _ = _
    rw [order]
    simp
  · rw [silent v mem]
    rfl

/-- A burst after the claim served before it is the burst that serves it first (R172, R174; log 13). -/
theorem ServedBefore.writePayload (before : ServedBefore s who w) (address : Nat) {bytes : List Byte}
    (some : bytes ≠ []) : writePayload who address bytes (serve w s) = writePayload who address bytes s := by
  obtain ⟨skipped, order, silent⟩ := before.first
  have served : serveEach (claimantsBefore (serve w s).buffer.pointer who) (serve w s) =
      serveEach (claimantsBefore s.buffer.pointer who) s := by
    rw [serve_pointer before.presented, order, serveEach_skips _ _ silent, serveEach, if_pos before.presented]
  have full : ¬bytes.isEmpty = true := by simpa using some
  unfold Machine.writePayload
  rw [if_neg full, if_neg full, served]

/-- With no claim before it a burst is stored at once (R173, R174). -/
theorem writePayload_first (none : ∀ v ∈ claimantsBefore s.buffer.pointer who, presents s v = false) (address : Nat)
    {bytes : List Byte} (some : bytes ≠ []) : writePayload who address bytes s =
      s.setBuffer { cells := memWrite s.buffer.cells address bytes, pointer := who } := by
  have full : ¬bytes.isEmpty = true := by simpa using some
  have served : serveEach (claimantsBefore s.buffer.pointer who) s = s := by
    have skips := serveEach_skips _ [] none
    rwa [List.append_nil] at skips
  unfold writePayload
  rw [if_neg full, served]
  rfl

theorem writePayload_empty (who : Claimant) (address : Nat) (s : State) : writePayload who address [] s = s := rfl

/-- The row of a claimant's claim, if one waits. -/
def waiting (s : State) (w : Claimant) : Option Instr := if presents s w = true then some (claimRow w) else none

theorem waiting_eq (s : State) (w : Claimant) {α : Type} {claims : List α}
    (is : presents s w = !claims.isEmpty) : (if claims = [] then none else some (claimRow w)) = waiting s w := by
  unfold waiting
  rw [is]
  cases claims <;> rfl

theorem find?_presents_cons (s : State) (w : Claimant) (l : List Claimant) :
    ((w :: l).find? (presents s)).map claimRow = (waiting s w <|> (l.find? (presents s)).map claimRow) := by
  unfold waiting
  by_cases presented : presents s w = true
  · rw [List.find?_cons_of_pos presented, if_pos presented]
    rfl
  · rw [List.find?_cons_of_neg presented, if_neg presented]
    rfl

/-- The claim before an engine's burst is the first that waits of the claimants before the engine (R172, R173). -/
theorem claimBefore_eq (s : State) (engine : who ≠ .host) : claimBefore who s =
    ((claimantsBefore s.buffer.pointer who).find? (presents s)).map claimRow := by
  have host := waiting_eq s .host (claims := s.port.claims) rfl
  have channels := waiting_eq s .channels (claims := s.chans.claims) rfl
  have responders := waiting_eq s .responders (claims := s.ctxs.claims) rfl
  unfold claimRow at host channels responders
  unfold claimBefore
  dsimp only
  rw [host, channels, responders]
  have one (w : Claimant) : waiting s w = ([w].find? (presents s)).map claimRow := by
    rw [find?_presents_cons]
    cases waiting s w <;> rfl
  have two (v w : Claimant) : (waiting s v <|> waiting s w) = ([v, w].find? (presents s)).map claimRow := by
    rw [find?_presents_cons, ← one]
  cases who with
  | host => exact absurd rfl engine
  | channels =>
    cases s.buffer.pointer with
    | host => rfl
    | channels => exact two .responders .host
    | responders => exact one .host
  | responders =>
    cases s.buffer.pointer with
    | host => exact one .channels
    | channels => rfl
    | responders => exact two .host .channels

theorem claimantsBefore_tail (pointer who : Claimant) (n : Fin 3) :
    ((claimantsBefore pointer who).drop n).tail =
      (((claimantsBefore pointer who).drop n).head?.map (claimantsBefore · who)).getD [] := by
  revert n
  cases pointer <;> cases who <;> decide

/-- The claimants after one that stands before the engine are those before the engine once that one is served (R173). -/
theorem claimantsBefore_after (pointer who w : Claimant) (skipped rest : List Claimant)
    (order : claimantsBefore pointer who = skipped ++ w :: rest) : w ≠ who ∧ rest = claimantsBefore w who := by
  have short : (claimantsBefore pointer who).length ≤ 2 := by cases pointer <;> cases who <;> decide
  have within : skipped.length < 3 := by
    rw [order, List.length_append, List.length_cons] at short
    omega
  have tail := claimantsBefore_tail pointer who ⟨skipped.length, within⟩
  have drop : (claimantsBefore pointer who).drop skipped.length = w :: rest := by
    rw [order, List.drop_left]
  dsimp only at tail
  rw [drop] at tail
  have mem : w ∈ claimantsBefore pointer who := by
    rw [order]
    exact List.mem_append_right _ List.mem_cons_self
  exact ⟨by simpa using List.mem_takeWhile_imp mem, tail⟩

/-- The row of the claim before an engine's burst serves it (R172, R173). -/
theorem claimBefore_serves {c : Instr} (engine : who ≠ .host) (is : claimBefore who s = some c) :
    ∃ w, ServedBefore s who w ∧ exec c s = .next (serve w s) := by
  rw [claimBefore_eq s engine, Option.map_eq_some_iff] at is
  obtain ⟨w, found, rfl⟩ := is
  obtain ⟨presented, skipped, rest, order, silent⟩ := List.find?_eq_some_iff_append.mp found
  obtain ⟨other, after⟩ := claimantsBefore_after _ _ _ _ _ order
  have before : ServedBefore s who w := ⟨other, presented, skipped, after ▸ order, fun v mem => by
    simpa using silent v mem⟩
  exact ⟨w, before, by rw [exec_claimRow, serveInTurn, if_pos before.nextClaimant]⟩

theorem claimBefore_none (engine : who ≠ .host) (is : claimBefore who s = none) :
    ∀ v ∈ claimantsBefore s.buffer.pointer who, presents s v = false := by
  rw [claimBefore_eq s engine, Option.map_eq_none_iff, List.find?_eq_none] at is
  exact fun v mem => Bool.eq_false_iff.mpr (is v mem)

end

end Sys2Proof.Machine

/-! PROOFS. A DATA of a PUT at its context (R144, R150, R152, R170 to R174). -/

namespace Sys2Proof.Machine

section
variable {s t : State} {k : SlotNo} {tgl : Bool} {payload : List Byte} {w : Claimant}

theorem dataToContext_new (receiving : (s.context k).state = .receiving) (put : (s.context k).op = .put)
    (toggle : tgl = (s.context k).toggle) (length : payload.length = (s.context k).needed) :
    dataToContext k tgl payload s = (.ack tgl, receiveBytes k payload s) := by
  unfold dataToContext
  dsimp only
  rw [if_neg (by rw [receiving]; nofun), if_neg (not_not.mpr put), if_neg (not_not.mpr toggle),
    if_pos ⟨receiving, length⟩]

theorem dataToContext_repeat (notLingering : (s.context k).state ≠ .lingering) (put : (s.context k).op = .put)
    (toggle : tgl ≠ (s.context k).toggle) : dataToContext k tgl payload s = (.ack tgl, restartIdle k s) := by
  unfold dataToContext
  dsimp only
  rw [if_neg notLingering, if_neg (not_not.mpr put), if_pos toggle]

/-- The record of a context that has taken new bytes (R150). -/
def Context.receives (x : Context) (n idle : Nat) : Context :=
  { x with
    moved := x.moved + n, toggle := !x.toggle, idleTimer := some idle,
    state := if x.moved + n = x.total then .drained else x.state }

/-- New bytes with no claim before them: one burst, and the context moves on (R150, R174). -/
theorem receiveBytes_first
    (none : ∀ v ∈ claimantsBefore s.buffer.pointer .responders, presents s v = false) (some : payload ≠ []) :
    receiveBytes k payload s =
      (s.setBuffer { cells := memWrite s.buffer.cells (contextAddress s (s.context k)) payload,
                     pointer := .responders }).setContext k
        ((s.context k).receives payload.length s.idleLength) := by
  unfold receiveBytes
  rw [writePayload_first none _ some]
  rfl

/-- New bytes after the claim served before them (R172 to R174; log 13). -/
theorem receiveBytes_after (before : ServedBefore s .responders w) (some : payload ≠ []) :
    receiveBytes k payload (serve w s) = receiveBytes k payload s := by
  have ctxs := serve_ctxs (s := s) before.other
  have windows := serve_windows w s
  have station : (serve w s).station = s.station := by rw [serve_only s w]
  have record : (serve w s).context k = s.context k := by rw [State.context, ctxs]; rfl
  have address : contextAddress (serve w s) (s.context k) = contextAddress s (s.context k) := by
    rw [contextAddress, State.window, windows]
    rfl
  have idle : (serve w s).idleLength = s.idleLength := by rw [State.idleLength, station]; rfl
  unfold receiveBytes
  dsimp only
  rw [record, address, idle, before.writePayload _ some]

theorem ServedBefore.heard {who : Claimant} (before : ServedBefore s who w) (f : Frame) :
    ServedBefore (s.heard f) who w := by
  obtain ⟨other, presented, skipped, order, silent⟩ := before
  exact ⟨other, by rwa [heard_presents], skipped, by rwa [heard_buffer], fun v mem => by
    rw [heard_presents]
    exact silent v mem⟩

/-- What a served claim leaves as it is: the line and the station (R172). -/
theorem Takes.serve {src : StationNo} (takes : Takes s src) (w : Claimant) : Takes (Machine.serve w s) src := by
  have pins : (Machine.serve w s).pins = s.pins := by rw [serve_only s w]
  have lau : (Machine.serve w s).lau = s.lau := by rw [serve_only s w]
  have station : (Machine.serve w s).station = s.station := by rw [serve_only s w]
  unfold Takes Hears WaitsForL State.unseenActivity at *
  rwa [pins, lau, station]

theorem HoldsExchange.serve {p : StationNo} {x : ChannelNo} (holds : HoldsExchange s k p x) (other : w ≠ .responders) :
    HoldsExchange (Machine.serve w s) k p x := by
  unfold HoldsExchange State.context at *
  rwa [serve_ctxs other]

theorem dataFrame_valid {dir : Bool} {src dst : StationNo} {xch : ChannelNo} (short : payload.length ≤ 256) :
    (dataFrame dir src dst xch tgl payload).valid = true := by
  simp [Frame.valid, dataFrame, FrameKind.admits, FrameKind.dirZero, FrameKind.tglZero, FrameKind.broadcast, short]

/-- A DATA with DIR 0 for the slot that holds its identity (R38, R144). -/
theorem exec_dataReceived {src : StationNo} {xch : ChannelNo} {a : Answer} (takes : Takes s src)
    (online : s.station.mode = .online) (law : SlotLaw s) (holds : HoldsExchange s k src xch)
    (short : payload.length ≤ 256)
    (answers : dataToContext k tgl payload (s.heard (dataFrame false src s.station.number xch tgl payload)) = (a, t)) :
    exec (.dataReceived src s.station.number xch tgl payload) s = .next (t.setAnswer (some
      (answerTo s (dataFrame false src s.station.number xch tgl payload) a.kind a.tgl a.payload))) := by
  refine exec_toContext rfl takes (dataFrame_valid short) rfl (.inl ⟨rfl, rfl⟩) (.inl online) (Eq.trans ?_ answers)
  exact byIdentity_holds (by rw [heard_station]; exact online)
    (law.of_slots (by rw [heard_ctxs]) (by rw [heard_ctxs])) (by rw [HoldsExchange, heard_context]; exact holds)

end

/-- Settles O27. -/
theorem putDataReceived : Obligations.PutDataReceived := by
  rintro s src xch tgl payload k x f is takes online law canonical holds rfl put short
  have frame : f = dataFrame false src s.station.number xch tgl payload := is
  subst frame
  have idle := heard_idleLength s (dataFrame false src s.station.number xch tgl payload)
  have record := heard_context s (dataFrame false src s.station.number xch tgl payload) k
  have buffer := heard_buffer s (dataFrame false src s.station.number xch tgl payload)
  refine ⟨fun receiving toggle some length => ?new, fun going toggle => ?again⟩
  case new =>
    have taken := dataToContext_new (tgl := tgl) (s := s.heard (dataFrame false src s.station.number xch tgl payload))
      (by rw [record]; exact receiving) (by rw [record]; exact put) (by rw [record]; exact toggle)
      (by rw [record]; exact length)
    have row := exec_dataReceived takes online law holds short taken
    refine ⟨fun c u before runs => ?_, fun first => ?_⟩
    · obtain ⟨w, served, serves⟩ := claimBefore_serves (who := .responders) nofun before
      cases serves.symm.trans runs
      have station : (serve w s).station = s.station := by rw [serve_only s w]
      have recordLater : ((serve w s).heard (dataFrame false src (serve w s).station.number xch tgl payload)).context k =
          s.context k := by
        rw [heard_context, State.context, serve_ctxs served.other]
        rfl
      have later := exec_dataReceived (s := serve w s) (k := k) (src := src) (xch := xch) (takes.serve w)
        (by rw [station]; exact online)
        (law.of_slots (by rw [serve_ctxs served.other]) (by rw [serve_ctxs served.other])) (holds.serve served.other) short
        (dataToContext_new (tgl := tgl) (payload := payload) (by rw [recordLater]; exact receiving)
          (by rw [recordLater]; exact put) (by rw [recordLater]; exact toggle) (by rw [recordLater]; exact length))
      rw [station, serve_heard, receiveBytes_after (served.heard _) some] at later
      rw [row, later]
      unfold answerTo
      rw [station]
    · refine ⟨_, memWrite_stores canonical _ payload (by omega), ?_⟩
      rw [row, receiveBytes_first (fun v mem => ?_) some, record, idle, buffer]
      · rw [contextAddress, heard_window, Context.receives, receiving]
        rfl
      · rw [heard_presents]
        rw [buffer] at mem
        exact claimBefore_none (who := .responders) nofun first v mem
  case again =>
    have notLingering : (s.context k).state ≠ .lingering := by
      rcases going with state | state <;> rw [state] <;> nofun
    have taken := dataToContext_repeat (tgl := tgl) (payload := payload)
      (s := s.heard (dataFrame false src s.station.number xch tgl payload)) (by rw [record]; exact notLingering) (by rw [record]; exact put) (by rw [record]; exact toggle)
    rw [exec_dataReceived takes online law holds short taken, restartIdle, record, idle]
    rfl

end Sys2Proof.Machine

/-! PROOFS. A DATA with DIR 1 at its channel (R38, R111 to R115, R119, R127, R132, R170 to R174). -/

namespace Sys2Proof.Machine

theorem State.setChannel_self (s : State) (c : ChannelNo) : s.setChannel c (s.channel c) = s := by
  unfold State.setChannel State.channel
  rw [Vector.set_getElem_self]
  rfl

section
variable {s t : State} {c : ChannelNo} {src : StationNo} {tgl : Bool} {payload : List Byte} {w : Claimant}

/-! ### The answer by the channel's state -/

/-- The frame is not for the channel: NO_EXCHANGE (R111, R114, R127). -/
theorem takeChannelData_noExchange (not : src ≠ (s.channel c).desc.peer ∨ (s.channel c).desc.op = .put ∨
    (s.channel c).state = .idle ∨ (s.channel c).state = .armed ∨ (s.channel c).state = .done ∨
    (s.channel c).state = .failed ∨ (s.channel c).state = .aborting ∨
    (tgl = (s.channel c).toggle ∧ ((s.channel c).state = .close ∨
      ((s.channel c).state = .held ∧ (s.channel c).heldPhase = .close)))) :
    takeChannelData src c tgl payload s = (.refuse reasonNoExchange, s) := by
  unfold takeChannelData
  dsimp only
  split
  · rfl
  rename_i exchange
  obtain ⟨peer, notPut⟩ := not_or.mp exchange
  rcases not with other | put | state | state | state | state | state | ⟨toggle, state | ⟨state, phase⟩⟩
  · exact absurd other peer
  · exact absurd put notPut
  all_goals rw [state]
  · exact if_pos toggle
  · dsimp only
    rw [phase]
    exact if_pos toggle

variable (peer : src = (s.channel c).desc.peer) (notPut : (s.channel c).desc.op ≠ .put)
include peer notPut

theorem takeChannelData_wait (early : (s.channel c).state = .request ∨
    ((s.channel c).state = .held ∧ (s.channel c).heldPhase = .request) ∨
    (tgl = (s.channel c).toggle ∧ (s.channel c).state = .held ∧ (s.channel c).heldPhase = .data)) :
    takeChannelData src c tgl payload s = (.wait, s) := by
  unfold takeChannelData
  dsimp only
  rw [if_neg (not_or.mpr ⟨not_not.mpr peer, notPut⟩)]
  rcases early with state | ⟨state, phase⟩ | ⟨toggle, state, phase⟩ <;> rw [state]
  · dsimp only
    rw [phase]
  · dsimp only
    rw [phase]
    exact if_pos toggle

theorem takeChannelData_repeat (toggle : tgl ≠ (s.channel c).toggle) (late : (s.channel c).state = .close ∨
    ((s.channel c).state = .held ∧ ((s.channel c).heldPhase = .data ∨ (s.channel c).heldPhase = .close))) :
    takeChannelData src c tgl payload s = (.ack tgl, s) := by
  unfold takeChannelData
  dsimp only
  rw [if_neg (not_or.mpr ⟨not_not.mpr peer, notPut⟩)]
  rcases late with state | ⟨state, phase | phase⟩ <;> rw [state] <;> dsimp only
  · exact if_neg toggle
  · rw [phase]
    exact if_neg toggle
  · rw [phase]
    exact if_neg toggle

theorem takeChannelData_dataRepeat (toggle : tgl ≠ (s.channel c).toggle) (state : (s.channel c).state = .data) :
    takeChannelData src c tgl payload s =
      (.ack tgl, s.setChannel c { s.channel c with dataWait := some s.idleLength }) := by
  unfold takeChannelData
  dsimp only
  rw [if_neg (not_or.mpr ⟨not_not.mpr peer, notPut⟩)]
  rw [state]
  exact if_neg toggle

theorem takeChannelData_new (toggle : tgl = (s.channel c).toggle) (state : (s.channel c).state = .data) :
    takeChannelData src c tgl payload s = takeNewData c tgl payload s := by
  unfold takeChannelData
  dsimp only
  rw [if_neg (not_or.mpr ⟨not_not.mpr peer, notPut⟩), state]
  exact if_pos toggle

end

/-! ### New data -/

section
variable {s u : State} {c : ChannelNo} {tgl : Bool} {payload : List Byte} {w : Claimant}

theorem takeNewData_overrun (exceeds : 16 * 2 ^ (s.channel c).desc.sizeCode < payload.length ∨
    (s.channel c).remaining < payload.length) :
    takeNewData c tgl payload s = (.ack tgl, enterAborting c .overrun s) := if_pos exceeds

/-- New data that fits, after its burst (R112, R113, R119). -/
theorem takeNewData_fits (frame : payload.length ≤ 16 * 2 ^ (s.channel c).desc.sizeCode)
    (bytes : payload.length ≤ (s.channel c).remaining)
    (burst : writePayload .channels ((s.channel c).desc.localAddress + (s.channel c).moved) payload s = u)
    (kept : u.channel c = s.channel c) :
    takeNewData c tgl payload s = (.ack tgl, (u.setChannel c ((s.channel c).received payload.length s.idleLength)).progressed
      c (progressOf (s.channel c)).2) := by
  have written : writePayload .channels (s.channel c).nextAddress payload s = u := burst
  have confirmed : confirmBytes c payload.length u = (u.setChannel c { s.channel c with
      moved := (s.channel c).moved + payload.length, remaining := (s.channel c).remaining - payload.length,
      toggle := !(s.channel c).toggle, progressCount := (progressOf (s.channel c)).1 }).progressed c
        (progressOf (s.channel c)).2 := by
    rw [← kept, ← confirmBytes_setChannel, State.setChannel_self]
  unfold takeNewData frameSize
  dsimp only
  rw [if_neg (not_or.mpr ⟨Nat.not_lt_of_le frame, Nat.not_lt_of_le bytes⟩), written, confirmed, progressed_channel,
    enterClose, progressed_channel, setChannel_progressed, setChannel_progressed]
  unfold Channel.received
  dsimp only
  split <;> rfl

/-- An empty payload makes no claim (R174). -/
theorem takeNewData_empty : takeNewData c tgl [] s = (.ack tgl,
    (s.setChannel c ((s.channel c).received 0 s.idleLength)).progressed c (progressOf (s.channel c)).2) := by
  exact takeNewData_fits (Nat.zero_le _) (Nat.zero_le _) (writePayload_empty ..) rfl

/-- New data with no claim before it: one burst (R112, R174). -/
theorem takeNewData_first (frame : payload.length ≤ 16 * 2 ^ (s.channel c).desc.sizeCode)
    (bytes : payload.length ≤ (s.channel c).remaining)
    (none : ∀ v ∈ claimantsBefore s.buffer.pointer .channels, presents s v = false) (some : payload ≠ []) :
    takeNewData c tgl payload s = (.ack tgl, ((s.setBuffer {
        cells := memWrite s.buffer.cells ((s.channel c).desc.localAddress + (s.channel c).moved) payload,
        pointer := .channels }).setChannel c ((s.channel c).received payload.length s.idleLength)).progressed c
      (progressOf (s.channel c)).2) :=
  takeNewData_fits frame bytes (writePayload_first none _ some) rfl

theorem serve_channel (other : w ≠ .channels) (c : ChannelNo) : (serve w s).channel c = s.channel c := by
  rw [State.channel, serve_chans other]
  rfl

/-- New data after the claim served before it (R172 to R174; log 13). -/
theorem takeNewData_after (before : ServedBefore s .channels w) (some : payload ≠ [])
    (frame : payload.length ≤ 16 * 2 ^ (s.channel c).desc.sizeCode) (bytes : payload.length ≤ (s.channel c).remaining) :
    takeNewData c tgl payload (serve w s) = takeNewData c tgl payload s := by
  have station : (serve w s).station = s.station := by rw [serve_only s w]
  have record : (serve w s).channel c = s.channel c := serve_channel before.other c
  have idle : (serve w s).idleLength = s.idleLength := by rw [State.idleLength, station]; rfl
  unfold takeNewData frameSize
  dsimp only
  rw [record, idle, before.writePayload _ some, if_neg (not_or.mpr ⟨Nat.not_lt_of_le frame, Nat.not_lt_of_le bytes⟩),
    if_neg (not_or.mpr ⟨Nat.not_lt_of_le frame, Nat.not_lt_of_le bytes⟩)]

end

/-! ### The row -/

section
variable {s t : State} {src : StationNo} {xch : ChannelNo} {tgl : Bool} {payload : List Byte} {a : Answer}

/-- What the owner of a DATA with DIR 1 answers (R38). -/
def answerChannelData (f : Frame) (t : State) : Answer × State :=
  if t.station.mode = .withdrawing then (.refuse reasonWithdrawing, t)
  else takeChannelData f.src f.xch f.tgl f.payload t

theorem ownerOf_channelData (src dst : StationNo) (xch : ChannelNo) (tgl : Bool) (payload : List Byte) (s : State) :
    ownerOf (dataFrame true src dst xch tgl payload) (s.afterFrame (dataFrame true src dst xch tgl payload)) =
      deliver (dataFrame true src dst xch tgl payload) (answerChannelData (dataFrame true src dst xch tgl payload))
        (s.heard (dataFrame true src dst xch tgl payload)) := rfl

theorem exec_channelData (takes : Takes s src) (short : payload.length ≤ 256)
    (mode : s.station.mode = .online ∨ s.station.mode = .withdrawing)
    (answers : answerChannelData (dataFrame true src s.station.number xch tgl payload)
      (s.heard (dataFrame true src s.station.number xch tgl payload)) = (a, t)) :
    exec (.channelDataReceived src xch tgl payload) s = .next (t.setAnswer (some
      (answerTo s (dataFrame true src s.station.number xch tgl payload) a.kind a.tgl a.payload))) := by
  rw [exec_delivered (f := dataFrame true src s.station.number xch tgl payload) rfl takes (dataFrame_valid short)
    (ownerOf_channelData ..) rfl mode, answers]
  rfl

/-- A DATA with DIR 1 goes to its channel in ONLINE (R38, R111). -/
theorem exec_channelData_online (takes : Takes s src) (short : payload.length ≤ 256) (online : s.station.mode = .online)
    (answers : takeChannelData src xch tgl payload
      (s.heard (dataFrame true src s.station.number xch tgl payload)) = (a, t)) :
    exec (.channelDataReceived src xch tgl payload) s = .next (t.setAnswer (some
      (answerTo s (dataFrame true src s.station.number xch tgl payload) a.kind a.tgl a.payload))) :=
  exec_channelData takes short (.inl online) ((if_neg (by rw [heard_station, online]; nofun)).trans answers)

/-- New data and the claim served before it: the row does the same once the claim is served (R172 to R174; log 13). -/
theorem channelData_afterClaim {w : Claimant} (takes : Takes s src) (short : payload.length ≤ 256)
    (online : s.station.mode = .online) (peer : src = (s.channel xch).desc.peer) (notPut : (s.channel xch).desc.op ≠ .put)
    (toggle : tgl = (s.channel xch).toggle) (state : (s.channel xch).state = .data)
    (frame : payload.length ≤ 16 * 2 ^ (s.channel xch).desc.sizeCode)
    (bytes : payload.length ≤ (s.channel xch).remaining) (served : ServedBefore s .channels w) (some : payload ≠ []) :
    exec (.channelDataReceived src xch tgl payload) s =
      exec (.channelDataReceived src xch tgl payload) (serve w s) := by
  have station : (serve w s).station = s.station := by rw [serve_only s w]
  have record := heard_channel (s := s) (f := dataFrame true src s.station.number xch tgl payload) xch
  have same := (serve_channel (s := s.heard (dataFrame true src s.station.number xch tgl payload)) served.other xch).trans
    record
  obtain ⟨a, t, fresh⟩ : ∃ a t,
      takeNewData xch tgl payload (s.heard (dataFrame true src s.station.number xch tgl payload)) = (a, t) :=
    ⟨_, _, rfl⟩
  have now := exec_channelData_online takes short online ((takeChannelData_new (by rwa [record]) (by rwa [record])
    (by rwa [record]) (by rwa [record])).trans fresh)
  have later := exec_channelData_online (a := a) (t := t) (takes.serve w) short (by rwa [station]) (by
    rw [station, serve_heard, takeChannelData_new (by rwa [same]) (by rwa [same]) (by rwa [same]) (by rwa [same]),
      takeNewData_after (served.heard _) some (by rwa [record]) (by rwa [record])]
    exact fresh)
  rw [now, later]
  unfold answerTo
  rw [station]

end

/-- Settles O29. -/
theorem channelData : Obligations.ChannelData := by
  rintro s src xch tgl payload f ch i rfl short is takes canonical rfl
  have frame : f = dataFrame true src s.station.number xch tgl payload := is
  subst frame
  have idle := heard_idleLength s (dataFrame true src s.station.number xch tgl payload)
  have record := heard_channel (s := s) (f := dataFrame true src s.station.number xch tgl payload) xch
  have buffer := heard_buffer (s := s) (f := dataFrame true src s.station.number xch tgl payload)
  refine ⟨fun withdrawing => exec_channelData takes short (.inr withdrawing)
    (if_pos (by rw [heard_station]; exact withdrawing)), fun online => ?_⟩
  refine ⟨fun not => exec_channelData_online takes short online (takeChannelData_noExchange (by rwa [record])),
    fun peer notPut => ?_⟩
  rw [← record] at peer notPut
  refine ⟨fun early => exec_channelData_online takes short online
      (takeChannelData_wait peer notPut (by rwa [record])),
    fun ⟨toggle, late⟩ => exec_channelData_online takes short online
      (takeChannelData_repeat peer notPut (by rwa [record]) (by rwa [record])),
    fun ⟨toggle, state⟩ => ?again, fun ⟨toggle, state⟩ => ?new⟩
  case again =>
    have taken := exec_channelData_online takes short online
      (takeChannelData_dataRepeat (payload := payload) peer notPut (by rwa [record]) (by rwa [record]))
    rw [record, idle] at taken
    exact taken
  case new =>
    have taken := takeChannelData_new (tgl := tgl) (payload := payload) peer notPut (by rwa [record]) (by rwa [record])
    refine ⟨fun exceeds => ⟨_, enterAborting_aborts _ xch .overrun, exec_channelData_online takes short online
      (taken.trans (takeNewData_overrun (by rwa [record])))⟩, fun frame bytes => ?_⟩
    rw [← record] at frame bytes
    refine ⟨fun empty => ?_, fun some c u before runs => ?_, fun some first => ?_⟩
    · subst empty
      have row := exec_channelData_online takes short online (taken.trans takeNewData_empty)
      rw [record, idle] at row
      exact row
    · obtain ⟨w, served, serves⟩ := claimBefore_serves (who := .channels) nofun before
      cases serves.symm.trans runs
      rw [record] at peer notPut frame bytes
      exact channelData_afterClaim takes short online peer notPut toggle state frame bytes served some
    · refine ⟨_, memWrite_stores canonical _ payload (by omega), ?_⟩
      have row := exec_channelData_online takes short online (taken.trans (takeNewData_first frame bytes (fun v mem => by
        rw [heard_presents]
        rw [buffer] at mem
        exact claimBefore_none (who := .channels) nofun first v mem) some))
      rw [record, idle, buffer] at row
      exact row

end Sys2Proof.Machine
